-- ==== Sys2Proof/Word.lean ====
section
/-! DEFINITION. The words, numbers and small groups of values the core works on: 64-bit words, 8-bit
operand fields, 32-bit command words and codewords, the contents of a numeric register, the four pixels
of a block, and the groups the document's data model gives (RGB, YPbPr, the six block quantities). -/

namespace Sys2Proof

/-- An 8-bit field of a command word, or a host register number (R30, R73). -/
abbrev Byte := BitVec 8

/-- A 32-bit command word, or a codeword (R70, R73). -/
abbrev Word32 := BitVec 32

/-- A 64-bit register of the core (R23, R24). -/
abbrev Word64 := BitVec 64

/-- What a written numeric register holds (R21, R32). Under BINARY32 it is a 32-bit IEEE 754 pattern, or
the zero a command produced, whose sign bit is unspecified (R114, U3; log 8). Under EXACT it is a
rational. -/
inductive Number where
  | pattern (p : BitVec 32)
  | zero
  | rational (q : Rat)
  deriving DecidableEq, Repr

/-- The four pixels of a 2×2 block in row-major order (R21, R170). -/
inductive Pixel where
  | topLeft
  | topRight
  | bottomLeft
  | bottomRight
  deriving DecidableEq, Repr

/-- The position 0..3 of a pixel in the block (R21, R77). -/
def Pixel.index : Pixel → Nat
  | .topLeft => 0
  | .topRight => 1
  | .bottomLeft => 2
  | .bottomRight => 3

/-- One value for each pixel of the block (R170). -/
structure Quad (α : Type) where
  topLeft : α
  topRight : α
  bottomLeft : α
  bottomRight : α
  deriving DecidableEq, Repr

/-- The value of one pixel. -/
def Quad.get {α : Type} (x : Quad α) : Pixel → α
  | .topLeft => x.topLeft
  | .topRight => x.topRight
  | .bottomLeft => x.bottomLeft
  | .bottomRight => x.bottomRight

/-- The same four values but for one pixel. -/
def Quad.set {α : Type} (x : Quad α) (p : Pixel) (v : α) : Quad α :=
  match p with
  | .topLeft => { x with topLeft := v }
  | .topRight => { x with topRight := v }
  | .bottomLeft => { x with bottomLeft := v }
  | .bottomRight => { x with bottomRight := v }

/-- The same function on each pixel. -/
def Quad.map {α β : Type} (f : α → β) (x : Quad α) : Quad β :=
  ⟨f x.topLeft, f x.topRight, f x.bottomLeft, f x.bottomRight⟩

/-- A red, green, blue triple ("Normalized RGB", R21). -/
structure Rgb (α : Type) where
  r : α
  g : α
  b : α
  deriving DecidableEq, Repr

/-- The same function on each channel. -/
def Rgb.map {α β : Type} (f : α → β) (x : Rgb α) : Rgb β := ⟨f x.r, f x.g, f x.b⟩

/-- A luma, chroma, chroma triple ("Component-video sample", R21). -/
structure Ypp (α : Type) where
  y : α
  pb : α
  pr : α
  deriving DecidableEq, Repr

/-- The same function on each component. -/
def Ypp.map {α β : Type} (f : α → β) (x : Ypp α) : Ypp β := ⟨f x.y, f x.pb, f x.pr⟩

/-- The four luma quantities of a block: its average and three differences (R21, R171). -/
structure Luma (α : Type) where
  a : α
  b : α
  c : α
  d : α
  deriving DecidableEq, Repr

/-- The same function on each luma quantity. -/
def Luma.map {α β : Type} (f : α → β) (x : Luma α) : Luma β := ⟨f x.a, f x.b, f x.c, f x.d⟩

/-- The two chroma quantities of a block (R21, R173). -/
structure Chroma (α : Type) where
  pb : α
  pr : α
  deriving DecidableEq, Repr

/-- The same function on each chroma quantity. -/
def Chroma.map {α β : Type} (f : α → β) (x : Chroma α) : Chroma β := ⟨f x.pb, f x.pr⟩

/-- The six quantities of one block: `COEF` (R21) and `Q` (R23) are two groups of this shape. -/
structure Six (α : Type) where
  a : α
  b : α
  c : α
  d : α
  pb : α
  pr : α
  deriving DecidableEq, Repr

/-- The same function on each of the six. -/
def Six.map {α β : Type} (f : α → β) (x : Six α) : Six β :=
  ⟨f x.a, f x.b, f x.c, f x.d, f x.pb, f x.pr⟩

end Sys2Proof
end

