-- ==== Sys2Proof/Syntax.lean ====
section
/-! DEFINITION. The 22 commands of the opcode map (R76), one constructor per row, with the operand fields
the command's format uses (R75). -/

namespace Sys2Proof

/-- A command of the core with its operand fields, unsigned 8-bit integers used as they stand (R77). The
other operands of a command are the registers its rule names. -/
inductive Instr where
  /-- FITSU width (R131). -/
  | fitsu (width : Byte)
  /-- FITSS width (R132). -/
  | fitss (width : Byte)
  /-- GETU width, lsb (R133). -/
  | getu (width lsb : Byte)
  /-- GETS width, lsb (R134). -/
  | gets (width lsb : Byte)
  /-- SETU width, lsb (R135). -/
  | setu (width lsb : Byte)
  /-- SETS width, lsb (R136). -/
  | sets (width lsb : Byte)
  /-- CSCF idx (R151). -/
  | cscf (idx : Byte)
  /-- CSCI idx (R152). -/
  | csci (idx : Byte)
  /-- BTF (R171). -/
  | btf
  /-- BTI (R172). -/
  | bti
  /-- CAVG (R173). -/
  | cavg
  /-- CREP (R174). -/
  | crep
  /-- QDC (R196). -/
  | qdc
  /-- QAC (R197). -/
  | qac
  /-- QCH (R198). -/
  | qch
  /-- DQDC (R199). -/
  | dqdc
  /-- DQAC (R200). -/
  | dqac
  /-- DQCH (R201). -/
  | dqch
  /-- PACK (R221). -/
  | pack
  /-- UNPACK (R222). -/
  | unpack
  /-- ENCBLK (R241). -/
  | encblk
  /-- DECBLK (R242). -/
  | decblk
  deriving DecidableEq, Repr

end Sys2Proof
end

