-- ==== Sys2Proof/WellFormed.lean ====
section
/-! DEFINITION. Which commands are well formed: those a command word can spell legally (R78). -/

namespace Sys2Proof

/-- A command is well formed unless it is a CSCF or CSCI whose `idx` exceeds 3 (R78 case (c)). A `width` or
`lsb` outside the precondition is no illegal encoding (R77, R78): such a command is well formed and raises
PRECONDITION when it runs. -/
def Instr.wellFormed : Instr → Bool
  | .fitsu _ => true
  | .fitss _ => true
  | .getu _ _ => true
  | .gets _ _ => true
  | .setu _ _ => true
  | .sets _ _ => true
  | .cscf idx => decide (idx.toNat ≤ 3)
  | .csci idx => decide (idx.toNat ≤ 3)
  | .btf => true
  | .bti => true
  | .cavg => true
  | .crep => true
  | .qdc => true
  | .qac => true
  | .qch => true
  | .dqdc => true
  | .dqac => true
  | .dqch => true
  | .pack => true
  | .unpack => true
  | .encblk => true
  | .decblk => true

end Sys2Proof
end

