-- ==== Sys2Proof/Decode.lean ====
section
/-! DEFINITION. Decoding a command word (R73, R75, R76, R78), total on all 2^32 words and rejecting by
name, the opcode map as data, the encoder, and the host's `decodeTableWord`. -/

namespace Sys2Proof

/-- Why a command word is illegal: the three cases of R78. -/
inductive Reject where
  /-- (a) `op` is none of the 22 values of R76. -/
  | unknownOp (op : Byte)
  /-- (b) a field that the format says must be zero is not zero. -/
  | unusedFieldNotZero
  /-- (c) format X with `idx > 3`. -/
  | pixelIndexAbove3 (idx : Byte)
  deriving DecidableEq, Repr

/-- The four byte-wide fields of a command word (R73). -/
structure Fields where
  op : Byte
  width : Byte
  lsb : Byte
  idx : Byte
  deriving DecidableEq, Repr

/-- `op = word[31:24]`, `width = word[23:16]`, `lsb = word[15:8]`, `idx = word[7:0]` (R73). -/
def fieldsOf (word : Word32) : Fields :=
  { op := word.extractLsb' 24 8
    width := word.extractLsb' 16 8
    lsb := word.extractLsb' 8 8
    idx := word.extractLsb' 0 8 }

/-- Format Z: only `op` is used (R75). -/
def decodeZ (i : Instr) (f : Fields) : Except Reject Instr :=
  if f.width = 0 ∧ f.lsb = 0 ∧ f.idx = 0 then .ok i else .error .unusedFieldNotZero

/-- Format X: `op` and `idx` are used, and `idx` is at most 3 (R75, R78). -/
def decodeX (mk : Byte → Instr) (f : Fields) : Except Reject Instr :=
  if f.width = 0 ∧ f.lsb = 0 then
    if f.idx.toNat ≤ 3 then .ok (mk f.idx) else .error (.pixelIndexAbove3 f.idx)
  else .error .unusedFieldNotZero

/-- Format F: `op` and `width` are used (R75). -/
def decodeF (mk : Byte → Instr) (f : Fields) : Except Reject Instr :=
  if f.lsb = 0 ∧ f.idx = 0 then .ok (mk f.width) else .error .unusedFieldNotZero

/-- Format B: `op`, `width` and `lsb` are used (R75). -/
def decodeB (mk : Byte → Byte → Instr) (f : Fields) : Except Reject Instr :=
  if f.idx = 0 then .ok (mk f.width f.lsb) else .error .unusedFieldNotZero

/-- The command a word selects, or why it is illegal (R76, R78). -/
def decode (word : Word32) : Except Reject Instr :=
  let f := fieldsOf word
  match f.op.toNat with
  | 0x01 => decodeF .fitsu f
  | 0x02 => decodeF .fitss f
  | 0x03 => decodeB .getu f
  | 0x04 => decodeB .gets f
  | 0x05 => decodeB .setu f
  | 0x06 => decodeB .sets f
  | 0x08 => decodeX .cscf f
  | 0x09 => decodeX .csci f
  | 0x0A => decodeZ .btf f
  | 0x0B => decodeZ .bti f
  | 0x0C => decodeZ .cavg f
  | 0x0D => decodeZ .crep f
  | 0x10 => decodeZ .qdc f
  | 0x11 => decodeZ .qac f
  | 0x12 => decodeZ .qch f
  | 0x14 => decodeZ .dqdc f
  | 0x15 => decodeZ .dqac f
  | 0x16 => decodeZ .dqch f
  | 0x18 => decodeZ .pack f
  | 0x19 => decodeZ .unpack f
  | 0x1C => decodeZ .encblk f
  | 0x1D => decodeZ .decblk f
  | _ => .error (.unknownOp f.op)

/-- A command word from its four fields (R73). -/
def wordOf (op width lsb idx : Byte) : Word32 := op ++ width ++ lsb ++ idx

/-- The command word of a command (R73, R75, R76). -/
def encode : Instr → Word32
  | .fitsu width => wordOf 0x01 width 0 0
  | .fitss width => wordOf 0x02 width 0 0
  | .getu width lsb => wordOf 0x03 width lsb 0
  | .gets width lsb => wordOf 0x04 width lsb 0
  | .setu width lsb => wordOf 0x05 width lsb 0
  | .sets width lsb => wordOf 0x06 width lsb 0
  | .cscf idx => wordOf 0x08 0 0 idx
  | .csci idx => wordOf 0x09 0 0 idx
  | .btf => wordOf 0x0A 0 0 0
  | .bti => wordOf 0x0B 0 0 0
  | .cavg => wordOf 0x0C 0 0 0
  | .crep => wordOf 0x0D 0 0 0
  | .qdc => wordOf 0x10 0 0 0
  | .qac => wordOf 0x11 0 0 0
  | .qch => wordOf 0x12 0 0 0
  | .dqdc => wordOf 0x14 0 0 0
  | .dqac => wordOf 0x15 0 0 0
  | .dqch => wordOf 0x16 0 0 0
  | .pack => wordOf 0x18 0 0 0
  | .unpack => wordOf 0x19 0 0 0
  | .encblk => wordOf 0x1C 0 0 0
  | .decblk => wordOf 0x1D 0 0 0

/-- The command of an instruction whose bits are `w`, numbered as spec/opcode_table.json numbers them. A
command word is one 32-bit value handed to the command port (R50, R73), so its bits are the table's bits;
bits above `nbits` are zero (log 18). -/
def decodeTableWord (nbits w : Nat) : Option Instr :=
  match decode (BitVec.ofNat 32 (w % 2 ^ nbits)) with
  | .ok i => some i
  | .error _ => none

/-- One row of the opcode map: the bits a word is compared on and what they must be (R76). -/
structure OpcodeRow where
  mnemonic : String
  pattern : Word32
  mask : Word32
  deriving DecidableEq, Repr

/-- The `match` and `mask` columns of R76. -/
def opcodeMap : List OpcodeRow :=
  [⟨"FITSU", 0x01000000, 0xFF00FFFF⟩, ⟨"FITSS", 0x02000000, 0xFF00FFFF⟩,
   ⟨"GETU", 0x03000000, 0xFF0000FF⟩, ⟨"GETS", 0x04000000, 0xFF0000FF⟩,
   ⟨"SETU", 0x05000000, 0xFF0000FF⟩, ⟨"SETS", 0x06000000, 0xFF0000FF⟩,
   ⟨"CSCF", 0x08000000, 0xFFFFFF00⟩, ⟨"CSCI", 0x09000000, 0xFFFFFF00⟩,
   ⟨"BTF", 0x0A000000, 0xFFFFFFFF⟩, ⟨"BTI", 0x0B000000, 0xFFFFFFFF⟩,
   ⟨"CAVG", 0x0C000000, 0xFFFFFFFF⟩, ⟨"CREP", 0x0D000000, 0xFFFFFFFF⟩,
   ⟨"QDC", 0x10000000, 0xFFFFFFFF⟩, ⟨"QAC", 0x11000000, 0xFFFFFFFF⟩,
   ⟨"QCH", 0x12000000, 0xFFFFFFFF⟩, ⟨"DQDC", 0x14000000, 0xFFFFFFFF⟩,
   ⟨"DQAC", 0x15000000, 0xFFFFFFFF⟩, ⟨"DQCH", 0x16000000, 0xFFFFFFFF⟩,
   ⟨"PACK", 0x18000000, 0xFFFFFFFF⟩, ⟨"UNPACK", 0x19000000, 0xFFFFFFFF⟩,
   ⟨"ENCBLK", 0x1C000000, 0xFFFFFFFF⟩, ⟨"DECBLK", 0x1D000000, 0xFFFFFFFF⟩]

/-- The mnemonic of a command (R76). -/
def Instr.mnemonic : Instr → String
  | .fitsu _ => "FITSU"
  | .fitss _ => "FITSS"
  | .getu _ _ => "GETU"
  | .gets _ _ => "GETS"
  | .setu _ _ => "SETU"
  | .sets _ _ => "SETS"
  | .cscf _ => "CSCF"
  | .csci _ => "CSCI"
  | .btf => "BTF"
  | .bti => "BTI"
  | .cavg => "CAVG"
  | .crep => "CREP"
  | .qdc => "QDC"
  | .qac => "QAC"
  | .qch => "QCH"
  | .dqdc => "DQDC"
  | .dqac => "DQAC"
  | .dqch => "DQCH"
  | .pack => "PACK"
  | .unpack => "UNPACK"
  | .encblk => "ENCBLK"
  | .decblk => "DECBLK"

end Sys2Proof
end

