-- ==== Sys2Proof/Config.lean ====
section
/-! DEFINITION. What an implementation fixes (the parameters `P_NUM`, `P_TIE`, `P_CHROMA` of R8, R10,
R11) and the free values of the spec (93_implementation_defined.md U1, U2, U3, U7), as opaque constants
nothing in Lean can evaluate. -/

namespace Sys2Proof

/-- `P_NUM`, the numeric instance (R8, R103). -/
inductive PNum where
  | binary32
  | exact
  deriving DecidableEq, Repr

/-- `P_TIE`, what the nearest-entry search does at an exact tie (R11): the lower index, or either. -/
inductive PTie where
  | lowest
  | any
  deriving DecidableEq, Repr

/-- The configuration of one core, fixed when it is built (R294). It is not state (R41): the state carries
it because a step has no other argument, and no step changes it (log 1). -/
structure Config where
  /-- `P_NUM` (R8). -/
  pnum : PNum
  /-- `P_TIE` (R11). -/
  tie : PTie
  /-- `P_CHROMA`, the contents of the read-only table `CHROMA[0..15]` (R10, R29). -/
  chroma : Vector Number 16
  deriving DecidableEq, Repr

/-- The default `P_CHROMA` under BINARY32: the patterns of R206, from general knowledge (log 4). -/
def Config.defaultChroma : Vector Number 16 :=
  #v[.pattern 0xBEB33333, .pattern 0xBE4CCCCD, .pattern 0xBE19999A, .pattern 0xBDCCCCCD,
     .pattern 0xBD9DB22D, .pattern 0xBD6147AE, .pattern 0xBD072B02, .pattern 0xBC343958,
     .pattern 0x3C343958, .pattern 0x3D072B02, .pattern 0x3D6147AE, .pattern 0x3D9DB22D,
     .pattern 0x3DCCCCCD, .pattern 0x3E19999A, .pattern 0x3E4CCCCD, .pattern 0x3EB33333]

/-- The default `P_CHROMA` under EXACT: the decimals of R206, from general knowledge (log 4). -/
def Config.defaultChromaExact : Vector Number 16 :=
  #v[.rational (-35 / 100), .rational (-20 / 100), .rational (-15 / 100), .rational (-10 / 100),
     .rational (-77 / 1000), .rational (-55 / 1000), .rational (-33 / 1000), .rational (-11 / 1000),
     .rational (11 / 1000), .rational (33 / 1000), .rational (55 / 1000), .rational (77 / 1000),
     .rational (10 / 100), .rational (15 / 100), .rational (20 / 100), .rational (35 / 100)]

/-- The hardware's decided configuration: `P_NUM = BINARY32` (D1), `P_TIE = LOWEST` and the default table
(D7); log 3, log 4, log 5. -/
def Config.hardware : Config := ⟨.binary32, .lowest, Config.defaultChroma⟩

/-- The reference configuration over the rationals (R8, R104), with the same table and tie-break. -/
def Config.reference : Config := ⟨.exact, .lowest, Config.defaultChromaExact⟩

/-- Free value: the `n`-th arbitrary 64-bit pattern. A HostRead of an unwritten integer register, of an
unwritten numeric register under BINARY32 or of an unassigned number takes its low bits (U1, U2; log 7). -/
opaque Config.freeWord : Nat → BitVec 64

/-- Free value: the `n`-th arbitrary rational, for a HostRead of an unwritten numeric register under EXACT
(U1; log 7). -/
opaque Config.freeRational : Nat → Rat

/-- Free value: the `n`-th arbitrary bit. It is the sign of a zero that a command produced, seen by a
HostRead (U3; log 8), and the choice at a tie under `P_TIE = ANY` (U7; log 5). -/
opaque Config.freeBit : Nat → Bool

end Sys2Proof
end

