-- ==== Sys2Proof/Machine/Numerics.lean ====
section
/-! DEFINITION. The two numeric instances (40_numerics.md R103 to R115): the binary32 pattern and its
value, rounding to nearest with ties to even, and the primitives `lit`, `fadd`, `fsub`, `fmul`, `fdiv`,
`fneg`, `fofint`, `ffloor`, `fclamp`. A finite number is the rational it denotes; `none` is `overflow`. -/

namespace Sys2Proof.Machine

/-- The value of a binary32 pattern, `none` for an infinity or a NaN (R106). -/
def binary32Value (p : BitVec 32) : Option Rat :=
  let e : Nat := (p.extractLsb' 23 8).toNat
  let f : Nat := (p.extractLsb' 0 23).toNat
  if e = 255 then none
  else
    let m : Rat :=
      if e = 0 then (f : Rat) * (2 : Rat) ^ (-149 : Int)
      else ((2 ^ 23 + f : Nat) : Rat) * (2 : Rat) ^ ((e : Int) - 150)
    some (if p.msb then -m else m)

/-- The largest finite binary32 value, `MAXF` (R105). -/
def maxFinite : Rat := (2 ^ 24 - 1) * 2 ^ 104

/-- The spacing `q` of the binary32 grid at a non-zero `x` (R107): with `2^k ≤ |x| < 2^(k+1)` it is
`2^(k-23)`, and `2^-149` below the normal range. -/
def gridStep (x : Rat) : Rat :=
  if -126 ≤ Int.log 2 |x| then (2 : Rat) ^ (Int.log 2 |x| - 23) else (2 : Rat) ^ (-149 : Int)

/-- The integer nearest to `x`, the even one of two when `x` lies midway (R107). -/
def nearestEven (x : Rat) : Int :=
  if x - ⌊x⌋ < 1 / 2 then ⌊x⌋
  else if 1 / 2 < x - ⌊x⌋ then ⌊x⌋ + 1
  else if ⌊x⌋ % 2 = 0 then ⌊x⌋
  else ⌊x⌋ + 1

/-- `rnd`: rounding to binary32, `none` for overflow (R107). -/
def roundBinary32 (x : Rat) : Option Rat :=
  if x = 0 then some 0
  else
    let y : Rat := nearestEven (x / gridStep x) * gridStep x
    if |y| ≤ maxFinite then some y else none

/-- The rounding of an instance: none under EXACT (R104), `rnd` under BINARY32 (R108). -/
def roundTo (m : PNum) (x : Rat) : Option Rat :=
  match m with
  | .exact => some x
  | .binary32 => roundBinary32 x

/-- `lit`: the instance's value of a decimal, given as the rational it spells (R104, R108). No literal of the
spec overflows (R116), so the default is never taken. -/
def lit (m : PNum) (x : Rat) : Rat := (roundTo m x).getD 0

/-- `fadd` (R104, R108). -/
def fadd (m : PNum) (x y : Rat) : Option Rat := roundTo m (x + y)

/-- `fsub` (R104, R108). -/
def fsub (m : PNum) (x y : Rat) : Option Rat := roundTo m (x - y)

/-- `fmul` (R104, R108). -/
def fmul (m : PNum) (x y : Rat) : Option Rat := roundTo m (x * y)

/-- `fdiv`; every divisor of the spec is a non-zero constant (R104, R108, R111). -/
def fdiv (m : PNum) (x y : Rat) : Option Rat := roundTo m (x / y)

/-- `fneg`, exact (R108). -/
def fneg (x : Rat) : Rat := -x

/-- `fofint` (R108). -/
def fofint (m : PNum) (n : Int) : Option Rat := roundTo m n

/-- `ffloor`, the greatest integer not above `x` (R109). -/
def ffloor (x : Rat) : Int := ⌊x⌋

/-- `fclamp` (R110). -/
def fclamp (x lo hi : Rat) : Rat := if x < lo then lo else if hi < x then hi else x

/-- The binary32 pattern of a non-zero value of the grid (R106), and the pattern 0 for zero. -/
def binary32Pattern (x : Rat) : BitVec 32 :=
  if x = 0 then 0
  else
    let k := Int.log 2 |x|
    let sign := BitVec.ofBool (decide (x < 0))
    if -126 ≤ k then
      sign ++ BitVec.ofInt 8 (k + 127) ++ BitVec.ofInt 23 ⌊|x| / (2 : Rat) ^ (k - 23)⌋
    else
      sign ++ (0 : BitVec 8) ++ BitVec.ofInt 23 ⌊|x| / (2 : Rat) ^ (-149 : Int)⌋

/-- The finite value a numeric register holds, `none` for an infinity or a NaN (R105, R106, R112). -/
def numberValue : Number → Option Rat
  | .pattern p => binary32Value p
  | .zero => some 0
  | .rational q => some q

/-- What a command stores in a numeric register for a finite result (R32): under BINARY32 its pattern, a
zero keeping its sign bit open (R114; log 8). -/
def numberOf (m : PNum) (x : Rat) : Number :=
  match m with
  | .exact => .rational x
  | .binary32 => if x = 0 then .zero else .pattern (binary32Pattern x)

end Sys2Proof.Machine
end

