-- ==== Sys2Proof/Machine/State.lean ====
section
/-! DEFINITION. The state of one core (R20) as plain data, the names of its registers, the host's actions,
the reasons a step can stop, and the state after reset (R45, R290). -/

namespace Sys2Proof.Machine

/-- The value a host action carries (R31, R32): a 64-bit value, or under EXACT the rational itself for a
numeric register. -/
inductive HostData where
  | word (v : BitVec 64)
  | rational (q : Rat)
  deriving DecidableEq, Repr

/-- The four things the host can do to a core (R31). -/
inductive HostAction where
  /-- HostWrite(n, v). -/
  | write (n : Byte) (v : HostData)
  /-- HostRead(n). -/
  | read (n : Byte)
  /-- HostCommand(word). -/
  | command (word : Word32)
  /-- HostReset. -/
  | reset
  deriving DecidableEq, Repr

/-- The components of an RGB triple. -/
inductive RgbPart where
  | r
  | g
  | b
  deriving DecidableEq, Repr

/-- The components of a component-video sample. -/
inductive YppPart where
  | y
  | pb
  | pr
  deriving DecidableEq, Repr

/-- The components of `COEF` and of `Q`. -/
inductive Part where
  | a
  | b
  | c
  | d
  | pb
  | pr
  deriving DecidableEq, Repr

/-- The thirty numeric registers (R21). -/
inductive NumReg where
  | rgb (p : Pixel) (k : RgbPart)
  | ypp (p : Pixel) (k : YppPart)
  | coef (k : Part)
  deriving DecidableEq, Repr

/-- The data registers, each either written or unwritten (R22). -/
inductive Reg where
  | num (n : NumReg)
  | q (k : Part)
  | v
  | w
  | r
  | cw
  | t
  deriving DecidableEq, Repr

/-- The state of one core. A data register is `none` while it is unwritten and `some x` once it is written
and holds `x`: the mark of R22 is state of the spec, and the contents of an unwritten register can be
dropped (U4; log 2). The last four fields are the model's own (log 1, log 6, log 7). -/
structure State where
  /-- `RGB[0..3]` (R21). -/
  rgb : Quad (Rgb (Option Number))
  /-- `YPP[0..3]` (R21). -/
  ypp : Quad (Ypp (Option Number))
  /-- `COEF` (R21). -/
  coef : Six (Option Number)
  /-- `Q` (R23). -/
  q : Six (Option Word64)
  /-- `V`, the value operand (R24). -/
  v : Option Word64
  /-- `W`, the packing scratch word (R24). -/
  w : Option Word64
  /-- `R`, the result of GETU and GETS (R24). -/
  r : Option Word64
  /-- `CW`, the codeword (R25). -/
  cw : Option Word32
  /-- `T`, the predicate flag (R26). -/
  t : Option Bool
  /-- `FAULT`: `code` in bits 3:0, `info` in bits 7:4 (R27). -/
  fault : BitVec 8
  /-- The configuration, `CHROMA` among it; no step changes it (R29, R41, R294; log 1). -/
  config : Config
  /-- The host actions still to come, first to last (R31, R40, R296; log 6). -/
  pending : List HostAction
  /-- What the last HostRead returned (R31; log 7). -/
  answer : Option HostData
  /-- Numbers the free values drawn so far (U1, U2, U3, U7; log 7). -/
  fresh : Nat
  deriving DecidableEq, Repr

/-- The reasons a step can stop with a fault: none. Every fault of the spec writes `FAULT` and leaves a next
state, the halted core, which the host can still read and reset (R266, R267; log 13). Safe: nothing is
left out by it. -/
inductive Fault
  deriving DecidableEq, Repr

/-- The reasons a step can be refused. -/
inductive Refusal where
  /-- A command that has no meaning yet, by its mnemonic: raised by `exec`'s refused arms only. Safe. -/
  | notModelled (mnemonic : String)
  /-- A HostWrite that carries a rational to a register of bits, or bits to a numeric register under EXACT,
  where the spec says there is no bit pattern (R32): raised by `hostWrite` only. Safe (log 12). -/
  | hostValueOfOtherKind
  deriving DecidableEq, Repr

/-- The state after reset (R45, R290, R291): `FAULT` is 0x00, every data register is unwritten, `CHROMA` is
`P_CHROMA`. The configuration is the hardware's decided one (log 3, log 4, log 5); no host action is
pending (R292; log 6). -/
def State.reset : State where
  rgb := ⟨⟨none, none, none⟩, ⟨none, none, none⟩, ⟨none, none, none⟩, ⟨none, none, none⟩⟩
  ypp := ⟨⟨none, none, none⟩, ⟨none, none, none⟩, ⟨none, none, none⟩, ⟨none, none, none⟩⟩
  coef := ⟨none, none, none, none, none, none⟩
  q := ⟨none, none, none, none, none, none⟩
  v := none
  w := none
  r := none
  cw := none
  t := none
  fault := 0
  config := Config.hardware
  pending := []
  answer := none
  fresh := 0

end Sys2Proof.Machine
end

