-- ==== Sys2Proof/Machine/Ops.lean ====
section
/-! DEFINITION. The named operations on the state: the fault register and the halted state (R27, R28), raising a
fault (R266) and the reset that is the only way back (R290), the shell every command runs in (R74, R270),
reading and writing registers by name, and the writes the commands make. The spec has no memory (R50; log 17). -/

namespace Sys2Proof.Machine

/-- The five faults (R260). -/
inductive FaultCode where
  | outOfRange
  | precondition
  | illegalCmd
  | nonfinite
  | unwritten
  deriving DecidableEq, Repr

/-- The number of a fault in `FAULT.code` (R27, R260). -/
def FaultCode.number : FaultCode → BitVec 4
  | .outOfRange => 1
  | .precondition => 2
  | .illegalCmd => 3
  | .nonfinite => 4
  | .unwritten => 5

/-- What `raise` is given: the fault and its `info` (R266). -/
structure Raise where
  code : FaultCode
  info : BitVec 4
  deriving DecidableEq, Repr

/-- A computation of a command: a value, or the fault it raises. -/
abbrev Checked (α : Type) := Except Raise α

/-- What running a command answers. -/
abbrev Answer := Host.Outcome State Fault Refusal

/-- `FAULT.code = FAULT[3:0]` (R27). -/
def State.faultCode (s : State) : BitVec 4 := s.fault.extractLsb' 0 4

/-- `FAULT.info = FAULT[7:4]` (R27). -/
def State.faultInfo (s : State) : BitVec 4 := s.fault.extractLsb' 4 4

/-- The core is halted exactly when `FAULT.code` is not 0 (R28). -/
def State.halted (s : State) : Bool := s.faultCode != 0

/-- `raise X(n)`: writes `FAULT.code` and `FAULT.info` and no other state (R266). -/
def State.raise (s : State) (x : Raise) : State := { s with fault := x.info ++ x.code.number }

/-- `HostReset` (R290): `FAULT` is 0x00 and every data register unwritten; `CHROMA` and the other parameters
are untouched. The host's own side (its list of actions, what it has read) is not the core's. -/
def State.hostReset (s : State) : State :=
  { State.reset with config := s.config, pending := s.pending, answer := s.answer, fresh := s.fresh }

/-- The shell of a command: dropped by a halted core (R74 (1), R267, R270 (0); log 10); otherwise one atomic step
that writes its destinations or raises a fault and writes nothing but `FAULT` (R74 (3), R266). -/
def command (s : State) (body : Checked State) : Answer :=
  if s.halted then .next s
  else
    match body with
    | .ok s' => .next s'
    | .error x => .next (s.raise x)

/-- Run the next command of a sequence in the state the one before it left (R244). -/
def andThen (o : Answer) (f : State → Answer) : Answer :=
  match o with
  | .next s => f s
  | .fault x => .fault x
  | .refused x => .refused x

/-- Stop with a fault unless a condition holds. -/
def ensure (c : Bool) (x : Raise) : Checked Unit := if c then .ok () else .error x

/-- The result of arithmetic; an overflow raises NONFINITE (R112 (b)). -/
def computed {α : Type} : Option α → Checked α
  | some x => .ok x
  | none => .error ⟨.nonfinite, 0⟩

/-- One of a group's numeric registers. -/
def rgbPart {α : Type} (x : Rgb α) : RgbPart → α
  | .r => x.r
  | .g => x.g
  | .b => x.b

/-- One of a group's numeric registers. -/
def yppPart {α : Type} (x : Ypp α) : YppPart → α
  | .y => x.y
  | .pb => x.pb
  | .pr => x.pr

/-- One of the six registers of `COEF` or `Q`. -/
def sixPart {α : Type} (x : Six α) : Part → α
  | .a => x.a
  | .b => x.b
  | .c => x.c
  | .d => x.d
  | .pb => x.pb
  | .pr => x.pr

/-- The same triple but for one channel. -/
def setRgbPart {α : Type} (x : Rgb α) (k : RgbPart) (v : α) : Rgb α :=
  match k with
  | .r => { x with r := v }
  | .g => { x with g := v }
  | .b => { x with b := v }

/-- The same triple but for one component. -/
def setYppPart {α : Type} (x : Ypp α) (k : YppPart) (v : α) : Ypp α :=
  match k with
  | .y => { x with y := v }
  | .pb => { x with pb := v }
  | .pr => { x with pr := v }

/-- The same six but for one. -/
def setSixPart {α : Type} (x : Six α) (k : Part) (v : α) : Six α :=
  match k with
  | .a => { x with a := v }
  | .b => { x with b := v }
  | .c => { x with c := v }
  | .d => { x with d := v }
  | .pb => { x with pb := v }
  | .pr => { x with pr := v }

/-- What a numeric register holds, `none` while it is unwritten (R21, R22). -/
def State.number (s : State) : NumReg → Option Number
  | .rgb p k => rgbPart (s.rgb.get p) k
  | .ypp p k => yppPart (s.ypp.get p) k
  | .coef k => sixPart s.coef k

/-- Write a numeric register and mark it written (R22). -/
def State.setNumber (s : State) (n : NumReg) (x : Number) : State :=
  match n with
  | .rgb p k => { s with rgb := s.rgb.set p (setRgbPart (s.rgb.get p) k (some x)) }
  | .ypp p k => { s with ypp := s.ypp.set p (setYppPart (s.ypp.get p) k (some x)) }
  | .coef k => { s with coef := setSixPart s.coef k (some x) }

/-- Write one `Q` register (R23). -/
def State.setQ (s : State) (k : Part) (x : Word64) : State := { s with q := setSixPart s.q k (some x) }

/-- Write `V`. -/
def State.setV (s : State) (x : Word64) : State := { s with v := some x }

/-- Write `W`. -/
def State.setW (s : State) (x : Word64) : State := { s with w := some x }

/-- Write `R`. -/
def State.setR (s : State) (x : Word64) : State := { s with r := some x }

/-- Write `CW`. -/
def State.setCw (s : State) (x : Word32) : State := { s with cw := some x }

/-- Write `T`. -/
def State.setT (s : State) (x : Bool) : State := { s with t := some x }

/-- Write `RGB[p]` (CSCI). -/
def State.setRgb (s : State) (p : Pixel) (x : Rgb Number) : State :=
  { s with rgb := s.rgb.set p (x.map some) }

/-- Write `YPP[p]` (CSCF). -/
def State.setYpp (s : State) (p : Pixel) (x : Ypp Number) : State :=
  { s with ypp := s.ypp.set p (x.map some) }

/-- Write the four `YPP[i].y` and nothing else (BTI). -/
def State.setSamplesY (s : State) (y : Quad Number) : State :=
  { s with
    ypp :=
      { topLeft := { s.ypp.topLeft with y := some y.topLeft }
        topRight := { s.ypp.topRight with y := some y.topRight }
        bottomLeft := { s.ypp.bottomLeft with y := some y.bottomLeft }
        bottomRight := { s.ypp.bottomRight with y := some y.bottomRight } } }

/-- Write the same chroma pair to all four `YPP[i]` (CREP). -/
def State.setSamplesChroma (s : State) (x : Chroma Number) : State :=
  { s with ypp := s.ypp.map fun z => { z with pb := some x.pb, pr := some x.pr } }

/-- Write `COEF.a` (DQDC). -/
def State.setCoefA (s : State) (a : Number) : State := { s with coef := { s.coef with a := some a } }

/-- Write `COEF.b`, `COEF.c`, `COEF.d` (DQAC). -/
def State.setCoefDifferences (s : State) (b c d : Number) : State :=
  { s with coef := { s.coef with b := some b, c := some c, d := some d } }

/-- Write `COEF.a` to `COEF.d` (BTF). -/
def State.setCoefLuma (s : State) (x : Luma Number) : State :=
  { s with coef := { s.coef with a := some x.a, b := some x.b, c := some x.c, d := some x.d } }

/-- Write `COEF.pb`, `COEF.pr` (CAVG, DQCH). -/
def State.setCoefChroma (s : State) (x : Chroma Number) : State :=
  { s with coef := { s.coef with pb := some x.pb, pr := some x.pr } }

/-- Write `Q.a` (QDC). -/
def State.setQA (s : State) (a : Word64) : State := { s with q := { s.q with a := some a } }

/-- Write `Q.b`, `Q.c`, `Q.d` (QAC). -/
def State.setQDifferences (s : State) (b c d : Word64) : State :=
  { s with q := { s.q with b := some b, c := some c, d := some d } }

/-- Write `Q.pb`, `Q.pr` (QCH). -/
def State.setQChroma (s : State) (pb pr : Word64) : State :=
  { s with q := { s.q with pb := some pb, pr := some pr } }

/-- Write all six `Q` registers (UNPACK). -/
def State.setQAll (s : State) (x : Six Word64) : State := { s with q := x.map some }

/-- Note that `n` free values have been drawn (log 7). -/
def State.drawn (s : State) (n : Nat) : State := { s with fresh := s.fresh + n }

/-- Note what a HostRead returned (R31). -/
def State.setAnswer (s : State) (x : HostData) : State := { s with answer := some x }

end Sys2Proof.Machine
end

