-- ==== Sys2Proof/Machine/Operands.lean ====
section
/-! DEFINITION. Every form of operand: the readings of a 64-bit pattern (R14, R101), the operand fields of a
command word (R77) with the precondition on them (R130) and the pixel index (R78), and the source
registers, alone and in the groups the commands read, with the faults of reading them (R112, R265). -/

namespace Sys2Proof.Machine

/-- `u64(x)`: the pattern read as an unsigned integer (R14). -/
def u64 (x : Word64) : Int := x.toNat

/-- `i64(x)`: the pattern read as two's complement (R14, R101). -/
def i64 (x : Word64) : Int := x.toInt

/-- `sext_64(v)`: a signed integer as its 64-bit pattern, `v mod 2^64` (R14). -/
def sext64 (v : Int) : Word64 := BitVec.ofInt 64 v

/-- `zext_64(v)`: an unsigned value widened to 64 bits (R14). -/
def zext64 (v : Nat) : Word64 := BitVec.ofNat 64 v

/-- The pixel an `idx` field selects (R77); an `idx` above 3 selects none (R78 (c)). -/
def pixelOf (idx : Byte) : Option Pixel :=
  match idx.toNat with
  | 0 => some .topLeft
  | 1 => some .topRight
  | 2 => some .bottomLeft
  | 3 => some .bottomRight
  | _ => none

/-- The pixel operand of CSCF and CSCI; ILLEGAL_CMD when `idx > 3` (R78, R151, R152; log 14). -/
def pixel (idx : Byte) : Checked Pixel :=
  match pixelOf idx with
  | some p => .ok p
  | none => .error ⟨.illegalCmd, 0⟩

/-- The precondition of FITSU and FITSS: `1 ≤ width ≤ 64` (R130). -/
def widthOk (width : Byte) : Bool := decide (1 ≤ width.toNat ∧ width.toNat ≤ 64)

/-- The precondition of GETU, GETS, SETU and SETS: `1 ≤ width ≤ 64` and `lsb + width ≤ 64` (R130). -/
def spanOk (width lsb : Byte) : Bool :=
  decide (1 ≤ width.toNat ∧ width.toNat ≤ 64 ∧ lsb.toNat + width.toNat ≤ 64)

/-- Reading a source register: UNWRITTEN when nothing has written it since reset (R22, R265). -/
def source {α : Type} : Option α → Checked α
  | some x => .ok x
  | none => .error ⟨.unwritten, 0⟩

/-- The finite value of a number read: NONFINITE for an infinity or a NaN (R112 (a)). -/
def finite (x : Number) : Checked Rat :=
  match numberValue x with
  | some q => .ok q
  | none => .error ⟨.nonfinite, 0⟩

/-- All three sources of CSCF are read before any is looked at (R270). -/
def sourceRgb (x : Rgb (Option Number)) : Checked (Rgb Number) := do
  let r ← source x.r
  let g ← source x.g
  let b ← source x.b
  pure ⟨r, g, b⟩

/-- The finite values of an RGB triple. -/
def finiteRgb (x : Rgb Number) : Checked (Rgb Rat) := do
  let r ← finite x.r
  let g ← finite x.g
  let b ← finite x.b
  pure ⟨r, g, b⟩

/-- All three sources of CSCI. -/
def sourceYpp (x : Ypp (Option Number)) : Checked (Ypp Number) := do
  let y ← source x.y
  let pb ← source x.pb
  let pr ← source x.pr
  pure ⟨y, pb, pr⟩

/-- The finite values of a Y, Pb, Pr triple. -/
def finiteYpp (x : Ypp Number) : Checked (Ypp Rat) := do
  let y ← finite x.y
  let pb ← finite x.pb
  let pr ← finite x.pr
  pure ⟨y, pb, pr⟩

/-- Four sources, one for each pixel (BTF, CAVG). -/
def sourceQuad {α : Type} (x : Quad (Option α)) : Checked (Quad α) := do
  let p ← source x.topLeft
  let q ← source x.topRight
  let u ← source x.bottomLeft
  let v ← source x.bottomRight
  pure ⟨p, q, u, v⟩

/-- The finite values of four numbers, one for each pixel. -/
def finiteQuad (x : Quad Number) : Checked (Quad Rat) := do
  let p ← finite x.topLeft
  let q ← finite x.topRight
  let u ← finite x.bottomLeft
  let v ← finite x.bottomRight
  pure ⟨p, q, u, v⟩

/-- `COEF.a` to `COEF.d` as sources (BTI). -/
def sourceLuma (x : Six (Option Number)) : Checked (Luma Number) := do
  let a ← source x.a
  let b ← source x.b
  let c ← source x.c
  let d ← source x.d
  pure ⟨a, b, c, d⟩

/-- The finite values of the four luma coefficients. -/
def finiteLuma (x : Luma Number) : Checked (Luma Rat) := do
  let a ← finite x.a
  let b ← finite x.b
  let c ← finite x.c
  let d ← finite x.d
  pure ⟨a, b, c, d⟩

/-- The `pb` and `pr` registers of `COEF` or `Q` as sources (CREP, QCH, DQCH). -/
def sourceChroma {α : Type} (x : Six (Option α)) : Checked (Chroma α) := do
  let pb ← source x.pb
  let pr ← source x.pr
  pure ⟨pb, pr⟩

/-- The finite values of a chroma pair. -/
def finiteChroma (x : Chroma Number) : Checked (Chroma Rat) := do
  let pb ← finite x.pb
  let pr ← finite x.pr
  pure ⟨pb, pr⟩

/-- All six `Q` registers as sources (PACK). -/
def sourceSix {α : Type} (x : Six (Option α)) : Checked (Six α) := do
  let a ← source x.a
  let b ← source x.b
  let c ← source x.c
  let d ← source x.d
  let pb ← source x.pb
  let pr ← source x.pr
  pure ⟨a, b, c, d, pb, pr⟩

end Sys2Proof.Machine
end

