-- ==== Sys2Proof/Machine/Color.lean ====
section
/-! DEFINITION. The Color Space Converter (42_colorspace.md): the forward and inverse mappings in the printed
order, each step rounded once, and CSCF, CSCI. -/

namespace Sys2Proof.Machine

/-- The forward mapping of R151; `none` when a step overflows. Finite inputs outside `[0, 1]` are computed as
they stand (R156). -/
def rgbToYpp (m : PNum) (x : Rgb Rat) : Option (Ypp Rat) := do
  let y ← fadd m
    (← fadd m (← fmul m (lit m (299 / 1000)) x.r) (← fmul m (lit m (587 / 1000)) x.g))
    (← fmul m (lit m (114 / 1000)) x.b)
  let pb ← fadd m
    (← fsub m (← fmul m (fneg (lit m (168736 / 1000000))) x.r) (← fmul m (lit m (331264 / 1000000)) x.g))
    (← fmul m (lit m (5 / 10)) x.b)
  let pr ← fsub m
    (← fsub m (← fmul m (lit m (5 / 10)) x.r) (← fmul m (lit m (418688 / 1000000)) x.g))
    (← fmul m (lit m (81312 / 1000000)) x.b)
  pure ⟨y, pb, pr⟩

/-- The inverse mapping of R152; the result is not clamped (R158). -/
def yppToRgb (m : PNum) (x : Ypp Rat) : Option (Rgb Rat) := do
  let r ← fadd m x.y (← fmul m (lit m (1402 / 1000)) x.pr)
  let g ← fsub m (← fsub m x.y (← fmul m (lit m (344136 / 1000000)) x.pb))
    (← fmul m (lit m (714136 / 1000000)) x.pr)
  let b ← fadd m x.y (← fmul m (lit m (1772 / 1000)) x.pb)
  pure ⟨r, g, b⟩

/-- CSCF (R151). -/
def execCscf (idx : Byte) (s : State) : Answer :=
  command s do
    let p ← pixel idx
    let x ← sourceRgb (s.rgb.get p)
    let x ← finiteRgb x
    let z ← computed (rgbToYpp s.config.pnum x)
    pure (s.setYpp p (z.map (numberOf s.config.pnum)))

/-- CSCI (R152). -/
def execCsci (idx : Byte) (s : State) : Answer :=
  command s do
    let p ← pixel idx
    let x ← sourceYpp (s.ypp.get p)
    let x ← finiteYpp x
    let z ← computed (yppToRgb s.config.pnum x)
    pure (s.setRgb p (z.map (numberOf s.config.pnum)))

end Sys2Proof.Machine
end

