-- ==== Sys2Proof/Machine/Flags.lean ====
section
/-! DEFINITION. The one condition flag `T` (R26): the two fits tests that compute it (R131, R132), which the
packer and the dequantisers use as well (R220, R199 to R201) without touching `T`. -/

namespace Sys2Proof.Machine

/-- `fits_unsigned(n, width)`: true iff `0 ≤ n ≤ 2^width - 1` (R131). -/
def fitsUnsigned (n : Int) (width : Nat) : Bool := decide (0 ≤ n ∧ n ≤ 2 ^ width - 1)

/-- `fits_signed(n, width)`: true iff `-2^(width-1) ≤ n ≤ 2^(width-1) - 1` (R132). -/
def fitsSigned (n : Int) (width : Nat) : Bool :=
  decide (-2 ^ (width - 1) ≤ n ∧ n ≤ 2 ^ (width - 1) - 1)

/-- A fits test that faults: OUT_OF_RANGE with the given `info` (R261). -/
def inRange (fits : Bool) (info : BitVec 4) : Checked Unit := ensure fits ⟨.outOfRange, info⟩

end Sys2Proof.Machine
end

