-- ==== Sys2Proof/Machine/BitField.lean ====
section
/-! DEFINITION. The Bit-Field Codec (41_bitfield.md): the pure functions on a 64-bit word and FITSU, FITSS,
GETU, GETS, SETU, SETS. -/

namespace Sys2Proof.Machine

/-- `get_unsigned(word, width, lsb) = (word >> lsb) mod 2^width` (R133). -/
def getUnsigned (word : Word64) (width lsb : Nat) : Nat := (word.toNat >>> lsb) % 2 ^ width

/-- `get_signed(word, width, lsb)`: the unsigned field less `2^width` when its top bit is set (R134). -/
def getSigned (word : Word64) (width lsb : Nat) : Int :=
  let u := getUnsigned word width lsb
  if 2 ^ (width - 1) ≤ u then (u : Int) - 2 ^ width else u

/-- `set_unsigned(word, width, lsb, value) = (word AND NOT m) OR (value << lsb)` with
`m = (2^width - 1) << lsb`, for a value that fits (R135). -/
def setUnsigned (word : Word64) (width lsb value : Nat) : Word64 :=
  (word &&& ~~~ BitVec.ofNat 64 ((2 ^ width - 1) <<< lsb)) ||| BitVec.ofNat 64 (value <<< lsb)

/-- `set_signed`: the value's `width`-bit two's-complement pattern, `value mod 2^width`, written as in
`set_unsigned` (R136). -/
def setSigned (word : Word64) (width lsb : Nat) (value : Int) : Word64 :=
  setUnsigned word width lsb (value % 2 ^ width).toNat

/-- FITSU (R131). -/
def execFitsu (width : Byte) (s : State) : Answer :=
  command s do
    let v ← source s.v
    ensure (widthOk width) ⟨.precondition, 0⟩
    pure (s.setT (fitsUnsigned (u64 v) width.toNat))

/-- FITSS (R132). -/
def execFitss (width : Byte) (s : State) : Answer :=
  command s do
    let v ← source s.v
    ensure (widthOk width) ⟨.precondition, 0⟩
    pure (s.setT (fitsSigned (i64 v) width.toNat))

/-- GETU (R133). -/
def execGetu (width lsb : Byte) (s : State) : Answer :=
  command s do
    let w ← source s.w
    ensure (spanOk width lsb) ⟨.precondition, 0⟩
    pure (s.setR (zext64 (getUnsigned w width.toNat lsb.toNat)))

/-- GETS (R134). -/
def execGets (width lsb : Byte) (s : State) : Answer :=
  command s do
    let w ← source s.w
    ensure (spanOk width lsb) ⟨.precondition, 0⟩
    pure (s.setR (sext64 (getSigned w width.toNat lsb.toNat)))

/-- SETU: the precondition is tested before the fit (R135, R139). -/
def execSetu (width lsb : Byte) (s : State) : Answer :=
  command s do
    let w ← source s.w
    let v ← source s.v
    ensure (spanOk width lsb) ⟨.precondition, 0⟩
    inRange (fitsUnsigned (u64 v) width.toNat) 0
    pure (s.setW (setUnsigned w width.toNat lsb.toNat v.toNat))

/-- SETS: the precondition is tested before the fit (R136, R139). -/
def execSets (width lsb : Byte) (s : State) : Answer :=
  command s do
    let w ← source s.w
    let v ← source s.v
    ensure (spanOk width lsb) ⟨.precondition, 0⟩
    inRange (fitsSigned (i64 v) width.toNat) 0
    pure (s.setW (setSigned w width.toNat lsb.toNat (i64 v)))

end Sys2Proof.Machine
end

