-- ==== Sys2Proof/Machine/Packer.lean ====
section
/-! DEFINITION. The Word Packer/Unpacker (45_packer.md): the codeword of six fields by the fixed layout of R70
and R220, and PACK, UNPACK. -/

namespace Sys2Proof.Machine

/-- The six fits checks in the order `a, b, c, d, pb, pr`, each with its ordinal (R220, R221). -/
def fieldsFit (q : Six Word64) : Checked Unit := do
  inRange (fitsUnsigned (u64 q.a) 9) 1
  inRange (fitsSigned (i64 q.b) 5) 2
  inRange (fitsSigned (i64 q.c) 5) 3
  inRange (fitsSigned (i64 q.d) 5) 4
  inRange (fitsUnsigned (u64 q.pb) 4) 5
  inRange (fitsUnsigned (u64 q.pr) 4) 6

/-- The word the six sets build, starting from the zero word (R221). -/
def packWord (q : Six Word64) : Word64 :=
  let w : Word64 := 0
  let w := setUnsigned w 9 23 q.a.toNat
  let w := setSigned w 5 18 (i64 q.b)
  let w := setSigned w 5 13 (i64 q.c)
  let w := setSigned w 5 8 (i64 q.d)
  let w := setUnsigned w 4 4 q.pb.toNat
  setUnsigned w 4 0 q.pr.toNat

/-- The six fields of a word, the signed ones sign-extended to 64 bits (R222). -/
def unpackWord (w : Word64) : Six Word64 :=
  { a := zext64 (getUnsigned w 9 23)
    b := sext64 (getSigned w 5 18)
    c := sext64 (getSigned w 5 13)
    d := sext64 (getSigned w 5 8)
    pb := zext64 (getUnsigned w 4 4)
    pr := zext64 (getUnsigned w 4 0) }

/-- PACK (R221). -/
def execPack (s : State) : Answer :=
  command s do
    let q ← sourceSix s.q
    fieldsFit q
    pure ((s.setW (packWord q)).setCw ((packWord q).setWidth 32))

/-- UNPACK (R222). -/
def execUnpack (s : State) : Answer :=
  command s do
    let cw ← source s.cw
    let w : Word64 := cw.setWidth 64
    pure ((s.setW w).setQAll (unpackWord w))

end Sys2Proof.Machine
end

