-- ==== Sys2Proof/Machine/Quantizer.lean ====
section
/-! DEFINITION. The Quantizer (44_quantizer.md): the value functions of the luma average, the luma differences
and the chroma table, and QDC, QAC, QCH, DQDC, DQAC, DQCH. -/

namespace Sys2Proof.Machine

/-- `encode_dc` (R191). -/
def encodeDc (m : PNum) (x : Rat) : Option Int := do
  let u ← fmul m (fclamp x (lit m 0) (lit m 1)) (lit m 511)
  let z ← fadd m u (lit m (5 / 10))
  pure (ffloor z)

/-- `scale(x, limit)` (R192). -/
def scale (m : PNum) (x limit : Rat) : Option Rat := fdiv m (fclamp x (fneg limit) limit) limit

/-- `encode_ac` (R193). -/
def encodeAc (m : PNum) (x : Rat) : Option Int := do
  let u ← scale m x (lit m (3 / 10))
  let z ← fmul m u (lit m 15)
  let z ← fadd m z (lit m (5 / 10))
  pure (ffloor z)

/-- `decode_ac`: the division first, then the limit (R194). -/
def decodeAc (m : PNum) (q : Int) : Option Rat := do
  let u ← fofint m q
  let u ← fdiv m u (lit m 15)
  fmul m u (lit m (3 / 10))

/-- `decode_dc` (R195). -/
def decodeDc (m : PNum) (q : Int) : Option Rat := do
  let u ← fofint m q
  fdiv m u (lit m 511)

/-- The values of `CHROMA[0..15]`; every entry of a valid table is finite (R10; log 15). -/
def chromaValues (c : Config) : List Rat := c.chroma.toList.map fun x => (numberValue x).getD 0

/-- Scan a table from index `i` on for an entry nearer to `v` than the best so far. Of entries at the same
exact distance the first is kept, or with `late` the last (R202). -/
def nearestFrom (late : Bool) (v : Rat) : List Rat → Nat → Nat → Rat → Nat
  | [], _, best, _ => best
  | e :: es, i, best, dist =>
    if |e - v| < dist ∨ (late = true ∧ |e - v| = dist) then nearestFrom late v es (i + 1) i |e - v|
    else nearestFrom late v es (i + 1) best dist

/-- The index of a nearest entry of a table (R202): the lowest such index, or with `late` the highest. -/
def nearestIndex (late : Bool) (table : List Rat) (v : Rat) : Nat :=
  match table with
  | [] => 0
  | e :: es => nearestFrom late v es 1 0 |e - v|

/-- `index_of(v)` (R202). Under `P_TIE = LOWEST` the lowest nearest index; under `P_TIE = ANY` the free bit
chooses between the two a tie admits. -/
def indexOf (c : Config) (free : Bool) (v : Rat) : Nat :=
  match c.tie with
  | .lowest => nearestIndex false (chromaValues c) v
  | .any => nearestIndex free (chromaValues c) v

/-- `value_of(j) = CHROMA[j]`, for `j` in 0..15 (R204). -/
def valueOf (c : Config) (j : Nat) : Number := c.chroma.toList.getD j .zero

/-- How many free bits QCH draws: one for each search that may choose (U7; log 5). -/
def tieDraws (c : Config) : Nat :=
  match c.tie with
  | .lowest => 0
  | .any => 2

/-- QDC (R196). -/
def execQdc (s : State) : Answer :=
  command s do
    let a ← source s.coef.a
    let a ← finite a
    let n ← computed (encodeDc s.config.pnum a)
    pure (s.setQA (sext64 n))

/-- QAC (R197): all three sources are read before any is looked at. -/
def execQac (s : State) : Answer :=
  command s do
    let b ← source s.coef.b
    let c ← source s.coef.c
    let d ← source s.coef.d
    let b ← finite b
    let c ← finite c
    let d ← finite d
    let nb ← computed (encodeAc s.config.pnum b)
    let nc ← computed (encodeAc s.config.pnum c)
    let nd ← computed (encodeAc s.config.pnum d)
    pure (s.setQDifferences (sext64 nb) (sext64 nc) (sext64 nd))

/-- QCH (R198). -/
def execQch (s : State) : Answer :=
  command s do
    let x ← sourceChroma s.coef
    let x ← finiteChroma x
    let pb := indexOf s.config (Config.freeBit s.fresh) x.pb
    let pr := indexOf s.config (Config.freeBit (s.fresh + 1)) x.pr
    pure ((s.setQChroma (zext64 pb) (zext64 pr)).drawn (tieDraws s.config))

/-- DQDC (R199). -/
def execDqdc (s : State) : Answer :=
  command s do
    let q ← source s.q.a
    inRange (fitsUnsigned (u64 q) 9) 0
    let a ← computed (decodeDc s.config.pnum (u64 q))
    pure (s.setCoefA (numberOf s.config.pnum a))

/-- DQAC (R200): all three checks come before any write. -/
def execDqac (s : State) : Answer :=
  command s do
    let b ← source s.q.b
    let c ← source s.q.c
    let d ← source s.q.d
    inRange (fitsSigned (i64 b) 5) 0
    inRange (fitsSigned (i64 c) 5) 0
    inRange (fitsSigned (i64 d) 5) 0
    let nb ← computed (decodeAc s.config.pnum (i64 b))
    let nc ← computed (decodeAc s.config.pnum (i64 c))
    let nd ← computed (decodeAc s.config.pnum (i64 d))
    pure (s.setCoefDifferences (numberOf s.config.pnum nb) (numberOf s.config.pnum nc)
      (numberOf s.config.pnum nd))

/-- DQCH (R201): the table entries are copied without arithmetic (log 9). -/
def execDqch (s : State) : Answer :=
  command s do
    let x ← sourceChroma s.q
    inRange (fitsUnsigned (u64 x.pb) 4) 0
    inRange (fitsUnsigned (u64 x.pr) 4) 0
    pure (s.setCoefChroma ⟨valueOf s.config x.pb.toNat, valueOf s.config x.pr.toNat⟩)

end Sys2Proof.Machine
end

