-- ==== Sys2Proof/Machine/Transform.lean ====
section
/-! DEFINITION. The Block Transform (43_blocktransform.md): the luma transform and its inverse as printed
(R171, R172, R176), the chroma mean (R173), and BTF, BTI, CAVG, CREP. -/

namespace Sys2Proof.Machine

/-- The forward luma transform of R171: each four-term sum left to right as written, then one division by 4. -/
def lumaForward (m : PNum) (y : Quad Rat) : Option (Luma Rat) := do
  let a ← fdiv m (← fadd m (← fadd m (← fadd m y.topLeft y.topRight) y.bottomLeft) y.bottomRight) (lit m 4)
  let b ← fdiv m (← fsub m (← fsub m (← fadd m y.bottomRight y.bottomLeft) y.topRight) y.topLeft) (lit m 4)
  let c ← fdiv m (← fsub m (← fadd m (← fsub m y.bottomRight y.bottomLeft) y.topRight) y.topLeft) (lit m 4)
  let d ← fdiv m (← fadd m (← fsub m (← fsub m y.bottomRight y.bottomLeft) y.topRight) y.topLeft) (lit m 4)
  pure ⟨a, b, c, d⟩

/-- The inverse luma transform of R172. -/
def lumaInverse (m : PNum) (x : Luma Rat) : Option (Quad Rat) := do
  let y1 ← fadd m (← fsub m (← fsub m x.a x.b) x.c) x.d
  let y2 ← fsub m (← fadd m (← fsub m x.a x.b) x.c) x.d
  let y3 ← fsub m (← fsub m (← fadd m x.a x.b) x.c) x.d
  let y4 ← fadd m (← fadd m (← fadd m x.a x.b) x.c) x.d
  pure ⟨y1, y2, y3, y4⟩

/-- The mean of four samples, added in index order and divided by 4 (R173). -/
def mean4 (m : PNum) (x : Quad Rat) : Option Rat := do
  fdiv m (← fadd m (← fadd m (← fadd m x.topLeft x.topRight) x.bottomLeft) x.bottomRight) (lit m 4)

/-- BTF (R171). -/
def execBtf (s : State) : Answer :=
  command s do
    let y ← sourceQuad (s.ypp.map fun z => z.y)
    let y ← finiteQuad y
    let z ← computed (lumaForward s.config.pnum y)
    pure (s.setCoefLuma (z.map (numberOf s.config.pnum)))

/-- BTI (R172). -/
def execBti (s : State) : Answer :=
  command s do
    let x ← sourceLuma s.coef
    let x ← finiteLuma x
    let y ← computed (lumaInverse s.config.pnum x)
    pure (s.setSamplesY (y.map (numberOf s.config.pnum)))

/-- CAVG (R173): all eight sources are read before any is looked at. -/
def execCavg (s : State) : Answer :=
  command s do
    let pb ← sourceQuad (s.ypp.map fun z => z.pb)
    let pr ← sourceQuad (s.ypp.map fun z => z.pr)
    let pb ← finiteQuad pb
    let pr ← finiteQuad pr
    let x ← computed (mean4 s.config.pnum pb)
    let z ← computed (mean4 s.config.pnum pr)
    pure (s.setCoefChroma ⟨numberOf s.config.pnum x, numberOf s.config.pnum z⟩)

/-- CREP (R174): a copy of the pair, pattern for pattern (D8; log 9), once both are seen to be finite. -/
def execCrep (s : State) : Answer :=
  command s do
    let x ← sourceChroma s.coef
    let _ ← finiteChroma x
    pure (s.setSamplesChroma x)

end Sys2Proof.Machine
end

