-- ==== Sys2Proof/Machine/Block.lean ====
section
/-! DEFINITION. The whole-block commands ENCBLK and DECBLK (46_block_ops.md): each is the sequence of its
constituent commands (R244). A constituent that raises a fault halts the core, and the ones after it are
dropped by the halted core, so what the earlier ones wrote stays and nothing more is written. -/

namespace Sys2Proof.Machine

/-- ENCBLK (R241): CSCF 0 to 3, BTF, CAVG, QDC, QAC, QCH, PACK. -/
def execEncblk (s : State) : Answer :=
  let o := execCscf 0 s
  let o := andThen o (execCscf 1)
  let o := andThen o (execCscf 2)
  let o := andThen o (execCscf 3)
  let o := andThen o execBtf
  let o := andThen o execCavg
  let o := andThen o execQdc
  let o := andThen o execQac
  let o := andThen o execQch
  andThen o execPack

/-- DECBLK (R242): UNPACK, DQDC, DQAC, DQCH, BTI, CREP, CSCI 0 to 3. -/
def execDecblk (s : State) : Answer :=
  let o := execUnpack s
  let o := andThen o execDqdc
  let o := andThen o execDqac
  let o := andThen o execDqch
  let o := andThen o execBti
  let o := andThen o execCrep
  let o := andThen o (execCsci 0)
  let o := andThen o (execCsci 1)
  let o := andThen o (execCsci 2)
  andThen o (execCsci 3)

end Sys2Proof.Machine
end

