-- ==== Sys2Proof/Machine/Dispatch.lean ====
section
/-! DEFINITION. One arm for each command: the meaning it runs. -/

namespace Sys2Proof.Machine

def exec (i : Instr) (s : State) : Host.Outcome State Fault Refusal :=
  match i with
  | .fitsu width => Sys2Proof.Machine.execFitsu width s
  | .fitss width => Sys2Proof.Machine.execFitss width s
  | .getu width lsb => Sys2Proof.Machine.execGetu width lsb s
  | .gets width lsb => Sys2Proof.Machine.execGets width lsb s
  | .setu width lsb => Sys2Proof.Machine.execSetu width lsb s
  | .sets width lsb => Sys2Proof.Machine.execSets width lsb s
  | .cscf idx => Sys2Proof.Machine.execCscf idx s
  | .csci idx => Sys2Proof.Machine.execCsci idx s
  | .btf => Sys2Proof.Machine.execBtf s
  | .bti => Sys2Proof.Machine.execBti s
  | .cavg => Sys2Proof.Machine.execCavg s
  | .crep => Sys2Proof.Machine.execCrep s
  | .qdc => Sys2Proof.Machine.execQdc s
  | .qac => Sys2Proof.Machine.execQac s
  | .qch => Sys2Proof.Machine.execQch s
  | .dqdc => Sys2Proof.Machine.execDqdc s
  | .dqac => Sys2Proof.Machine.execDqac s
  | .dqch => Sys2Proof.Machine.execDqch s
  | .pack => Sys2Proof.Machine.execPack s
  | .unpack => Sys2Proof.Machine.execUnpack s
  | .encblk => Sys2Proof.Machine.execEncblk s
  | .decblk => Sys2Proof.Machine.execDecblk s

end Sys2Proof.Machine
end

