-- ==== Sys2Proof/Machine/HostPort.lean ====
section
/-! DEFINITION. The host port: register numbers (R30), HostRead and HostWrite (R31, R32, R57), HostCommand
(R74) and the host's action on the core as one step (R296). -/

namespace Sys2Proof.Machine

/-- What a host register number names (R30). -/
inductive HostReg where
  | data (x : Reg)
  | fault
  | chroma (j : Nat)
  deriving DecidableEq, Repr

/-- The pixel of a register offset `3 * i + k` (R30). -/
def pixelAt (offset : Nat) : Pixel :=
  match offset / 3 with
  | 0 => .topLeft
  | 1 => .topRight
  | 2 => .bottomLeft
  | _ => .bottomRight

/-- The RGB component of a register offset `3 * i + k` (R30). -/
def rgbPartAt (offset : Nat) : RgbPart :=
  match offset % 3 with
  | 0 => .r
  | 1 => .g
  | _ => .b

/-- The YPP component of a register offset `3 * i + k` (R30). -/
def yppPartAt (offset : Nat) : YppPart :=
  match offset % 3 with
  | 0 => .y
  | 1 => .pb
  | _ => .pr

/-- The `COEF` or `Q` component at an offset 0 to 5 (R30). -/
def partAt (offset : Nat) : Part :=
  match offset with
  | 0 => .a
  | 1 => .b
  | 2 => .c
  | 3 => .d
  | 4 => .pb
  | _ => .pr

/-- The register a number names, `none` for an unassigned number (R30). -/
def hostReg (n : Byte) : Option HostReg :=
  let n := n.toNat
  if n = 0x00 then some (.data .v)
  else if n = 0x01 then some (.data .w)
  else if n = 0x02 then some (.data .r)
  else if n = 0x03 then some (.data .t)
  else if n = 0x04 then some (.data .cw)
  else if n = 0x05 then some .fault
  else if 0x10 ≤ n ∧ n ≤ 0x1B then some (.data (.num (.rgb (pixelAt (n - 0x10)) (rgbPartAt (n - 0x10)))))
  else if 0x20 ≤ n ∧ n ≤ 0x2B then some (.data (.num (.ypp (pixelAt (n - 0x20)) (yppPartAt (n - 0x20)))))
  else if 0x30 ≤ n ∧ n ≤ 0x35 then some (.data (.num (.coef (partAt (n - 0x30)))))
  else if 0x38 ≤ n ∧ n ≤ 0x3D then some (.data (.q (partAt (n - 0x38))))
  else if 0x40 ≤ n ∧ n ≤ 0x4F then some (.chroma (n - 0x40))
  else none

/-- The host's view of a number (R32), zero-extended to 64 bits; the sign bit of a zero that a command
produced is the free bit (U3; log 8). -/
def numberSeen (signOfZero : Bool) : Number → HostData
  | .pattern p => .word (p.setWidth 64)
  | .zero => .word (if signOfZero then 0x80000000 else 0)
  | .rational q => .rational q

/-- The value of a register of bits, zero-extended to 64 bits; while it is unwritten, the low bits of the
free word (R31, U1). -/
def bitsSeen {w : Nat} (x : Option (BitVec w)) (free : BitVec 64) : HostData :=
  match x with
  | some v => .word (v.setWidth 64)
  | none => .word ((free.setWidth w).setWidth 64)

/-- The value of a numeric register as the host sees it (R32); while it is unwritten, an arbitrary pattern of
its width, or under EXACT an arbitrary rational (U1). -/
def numberRead (s : State) (x : Option Number) : HostData :=
  match x with
  | some v => numberSeen (Config.freeBit s.fresh) v
  | none =>
    match s.config.pnum with
    | .binary32 => bitsSeen (none : Option (BitVec 32)) (Config.freeWord s.fresh)
    | .exact => .rational (Config.freeRational s.fresh)

/-- The value `HostRead(n)` returns (R31); an unassigned number reads as any value (U2). -/
def hostReadValue (s : State) (n : Byte) : HostData :=
  let free := Config.freeWord s.fresh
  match hostReg n with
  | some (.data (.num x)) => numberRead s (s.number x)
  | some (.data (.q k)) => bitsSeen (sixPart s.q k) free
  | some (.data .v) => bitsSeen s.v free
  | some (.data .w) => bitsSeen s.w free
  | some (.data .r) => bitsSeen s.r free
  | some (.data .cw) => bitsSeen s.cw free
  | some (.data .t) => bitsSeen (s.t.map BitVec.ofBool) free
  | some .fault => .word (s.fault.setWidth 64)
  | some (.chroma j) => numberRead s (some (valueOf s.config j))
  | none => .word free

/-- `HostRead(n)`: works halted or not, and changes no state of the core (R31, R57, R267). -/
def hostRead (n : Byte) (s : State) : Answer := .next ((s.setAnswer (hostReadValue s n)).drawn 1)

/-- A host value for a register of bits, truncated to its width (R31); a rational is none (R32; log 12). -/
def writeBits (w : Nat) (v : HostData) (f : BitVec w → State) : Answer :=
  match v with
  | .word x => .next (f (x.setWidth w))
  | .rational _ => .refused .hostValueOfOtherKind

/-- A host value for a numeric register (R31, R32): a 32-bit pattern under BINARY32, a NaN included, the
rational itself under EXACT (log 12). -/
def writeNumber (m : PNum) (v : HostData) (f : Number → State) : Answer :=
  match m, v with
  | .binary32, .word x => .next (f (.pattern (x.setWidth 32)))
  | .exact, .rational q => .next (f (.rational q))
  | .binary32, .rational _ => .refused .hostValueOfOtherKind
  | .exact, .word _ => .refused .hostValueOfOtherKind

/-- `HostWrite(n, v)` (R31): sets a writable register and marks it written; nothing on a read-only or
unassigned number or while halted. -/
def hostWrite (n : Byte) (v : HostData) (s : State) : Answer :=
  if s.halted then .next s
  else
    match hostReg n with
    | some (.data (.num x)) => writeNumber s.config.pnum v (s.setNumber x)
    | some (.data (.q k)) => writeBits 64 v (s.setQ k)
    | some (.data .v) => writeBits 64 v s.setV
    | some (.data .w) => writeBits 64 v s.setW
    | some (.data .cw) => writeBits 32 v s.setCw
    | some (.data .r) => .next s
    | some (.data .t) => .next s
    | some .fault => .next s
    | some (.chroma _) => .next s
    | none => .next s

/-- `HostCommand(word)` (R74): dropped while halted; ILLEGAL_CMD for a word that does not decode; else the
command's meaning. -/
def hostCommand (word : Word32) (s : State) : Answer :=
  match decode word with
  | .ok i => exec i s
  | .error _ => command s (.error ⟨.illegalCmd, 0⟩)

/-- One host action on the core (R31, R296). -/
def hostAction (a : HostAction) (s : State) : Answer :=
  match a with
  | .write n v => hostWrite n v s
  | .read n => hostRead n s
  | .command word => hostCommand word s
  | .reset => .next s.hostReset

/-- The next host action, taken off the list and done; with none the core waits and does nothing by itself
(R292, R296; log 11). -/
def nextAction (s : State) : Answer :=
  match s.pending with
  | [] => .next s
  | a :: rest => hostAction a { s with pending := rest }

/-- The host's list with one more command in front: the next thing the core is given (log 6). -/
def State.issue (s : State) (word : Word32) : State := { s with pending := .command word :: s.pending }

end Sys2Proof.Machine
end

