-- ==== Sys2Proof/Machine/Step.lean ====
section
/-! DEFINITION. One step of the machine: one host action (R296). -/

namespace Sys2Proof.Machine

/-- One step: the host's next action (R31, R296). -/
def step (s : State) : Host.Outcome State Fault Refusal := nextAction s

/-- `s` with a command word as the host's next action. The core fetches nothing (R40, R64): a command word is
the argument of a HostCommand, so this is where a step takes its next command from (log 6). -/
def State.withFetchWord (s : State) (nbits w : Nat) : State := s.issue (BitVec.ofNat 32 (w % 2 ^ nbits))

end Sys2Proof.Machine
end

