-- ==== Sys2Proof/Machine/Stream.lean ====
section
/-! DEFINITION. The core's output contract with the stream collaborator, which a model of the whole codec needs
(20_memory.md R52, R53, R55, R56; 46_block_ops.md R246): the bytes of a codeword on the wire, the even
dimensions an image is trimmed to, and where in the image each block and each of its pixels lies. The
host does these; no command and no host action uses them (log 16). -/

namespace Sys2Proof.Machine

/-- The four bytes of a codeword in the order they are sent, most significant first (R52, R53). -/
def wireBytes (cw : Word32) : Quad Byte :=
  ⟨cw.extractLsb' 24 8, cw.extractLsb' 16 8, cw.extractLsb' 8 8, cw.extractLsb' 0 8⟩

/-- The codeword of four bytes in the order received (R53). -/
def cwOfBytes (b : Quad Byte) : Word32 :=
  BitVec.ofNat 32 (b.topLeft.toNat * 2 ^ 24 + b.topRight.toNat * 2 ^ 16 + b.bottomLeft.toNat * 2 ^ 8 +
    b.bottomRight.toNat)

/-- The bytes of a sequence of codewords, one after another with no padding (R55, R56). -/
def streamBytes : List Word32 → List Byte
  | [] => []
  | cw :: rest =>
    let b := wireBytes cw
    b.topLeft :: b.topRight :: b.bottomLeft :: b.bottomRight :: streamBytes rest

/-- The codewords of a sequence of bytes; `none` for trailing bytes that make no whole codeword, a
`MalformedStream` of the collaborator (R55). -/
def streamCodewords : List Byte → Option (List Word32)
  | [] => some []
  | b0 :: b1 :: b2 :: b3 :: rest => (streamCodewords rest).map (cwOfBytes ⟨b0, b1, b2, b3⟩ :: ·)
  | _ => none

/-- A dimension trimmed to even: the last row or column is dropped if it is odd (R246 (1)). -/
def trimmed (n : Nat) : Nat := n - n % 2

/-- The number of blocks of a trimmed image (R56, R246 (2)). -/
def blockCount (width height : Nat) : Nat := width / 2 * (height / 2)

/-- The count the reader of a stream checks, `⌈width/2⌉ * ⌈height/2⌉` (R56). -/
def readerCount (width height : Nat) : Nat := (width + 1) / 2 * ((height + 1) / 2)

/-- The block column and block row of block number `n` in row-major order (R246 (2)). -/
def blockPosition (width n : Nat) : Nat × Nat := (n % (width / 2), n / (width / 2))

/-- The image column and row of a pixel of the block at block column `bx`, block row `by` (R246 (3)). -/
def pixelPosition (block : Nat × Nat) : Pixel → Nat × Nat
  | .topLeft => (2 * block.1, 2 * block.2)
  | .topRight => (2 * block.1 + 1, 2 * block.2)
  | .bottomLeft => (2 * block.1, 2 * block.2 + 1)
  | .bottomRight => (2 * block.1 + 1, 2 * block.2 + 1)

end Sys2Proof.Machine
end

