-- ==== Sys2Proof/Safety.lean ====
section
/-! DEFINITION. The vocabulary claims are stated in: the table of what each command reads and writes (R33), when
two states agree on a register, the invariants of the machine, legal command words (R78), composites as
sequences (R244), the binary32 grid (R105), and rounded sums in the order written (R115). -/

namespace Sys2Proof

open Machine

/-- The core runs: it is not halted (R28). -/
abbrev Running (s : State) : Prop := s.halted = false

/-- The three `RGB` registers of a pixel. -/
def rgbRegs (p : Pixel) : List Reg := [.num (.rgb p .r), .num (.rgb p .g), .num (.rgb p .b)]

/-- The three `YPP` registers of a pixel. -/
def yppRegs (p : Pixel) : List Reg := [.num (.ypp p .y), .num (.ypp p .pb), .num (.ypp p .pr)]

/-- The four luma registers of the block. -/
def lumaRegs : List Reg :=
  [.num (.ypp .topLeft .y), .num (.ypp .topRight .y), .num (.ypp .bottomLeft .y), .num (.ypp .bottomRight .y)]

/-- The eight chroma registers of the block. -/
def chromaRegs : List Reg :=
  [.num (.ypp .topLeft .pb), .num (.ypp .topRight .pb), .num (.ypp .bottomLeft .pb),
   .num (.ypp .bottomRight .pb), .num (.ypp .topLeft .pr), .num (.ypp .topRight .pr),
   .num (.ypp .bottomLeft .pr), .num (.ypp .bottomRight .pr)]

/-- All twelve `RGB` registers. -/
def allRgb : List Reg := rgbRegs .topLeft ++ rgbRegs .topRight ++ rgbRegs .bottomLeft ++ rgbRegs .bottomRight

/-- All twelve `YPP` registers. -/
def allYpp : List Reg := yppRegs .topLeft ++ yppRegs .topRight ++ yppRegs .bottomLeft ++ yppRegs .bottomRight

/-- All six `COEF` registers. -/
def allCoef : List Reg :=
  [.num (.coef .a), .num (.coef .b), .num (.coef .c), .num (.coef .d), .num (.coef .pb), .num (.coef .pr)]

/-- All six `Q` registers. -/
def allQ : List Reg := [.q .a, .q .b, .q .c, .q .d, .q .pb, .q .pr]

/-- The column "reads" of R33. -/
def reads : Instr → List Reg
  | .fitsu _ => [.v]
  | .fitss _ => [.v]
  | .getu _ _ => [.w]
  | .gets _ _ => [.w]
  | .setu _ _ => [.w, .v]
  | .sets _ _ => [.w, .v]
  | .cscf idx => (pixelOf idx).elim [] rgbRegs
  | .csci idx => (pixelOf idx).elim [] yppRegs
  | .btf => lumaRegs
  | .bti => [.num (.coef .a), .num (.coef .b), .num (.coef .c), .num (.coef .d)]
  | .cavg => chromaRegs
  | .crep => [.num (.coef .pb), .num (.coef .pr)]
  | .qdc => [.num (.coef .a)]
  | .qac => [.num (.coef .b), .num (.coef .c), .num (.coef .d)]
  | .qch => [.num (.coef .pb), .num (.coef .pr)]
  | .dqdc => [.q .a]
  | .dqac => [.q .b, .q .c, .q .d]
  | .dqch => [.q .pb, .q .pr]
  | .pack => allQ
  | .unpack => [.cw]
  | .encblk => allRgb
  | .decblk => [.cw]

/-- The column "writes" of R33. -/
def writes : Instr → List Reg
  | .fitsu _ => [.t]
  | .fitss _ => [.t]
  | .getu _ _ => [.r]
  | .gets _ _ => [.r]
  | .setu _ _ => [.w]
  | .sets _ _ => [.w]
  | .cscf idx => (pixelOf idx).elim [] yppRegs
  | .csci idx => (pixelOf idx).elim [] rgbRegs
  | .btf => [.num (.coef .a), .num (.coef .b), .num (.coef .c), .num (.coef .d)]
  | .bti => lumaRegs
  | .cavg => [.num (.coef .pb), .num (.coef .pr)]
  | .crep => chromaRegs
  | .qdc => [.q .a]
  | .qac => [.q .b, .q .c, .q .d]
  | .qch => [.q .pb, .q .pr]
  | .dqdc => [.num (.coef .a)]
  | .dqac => [.num (.coef .b), .num (.coef .c), .num (.coef .d)]
  | .dqch => [.num (.coef .pb), .num (.coef .pr)]
  | .pack => [.w, .cw]
  | .unpack => .w :: allQ
  | .encblk => allYpp ++ allCoef ++ allQ ++ [.w, .cw]
  | .decblk => .w :: allQ ++ allCoef ++ allYpp ++ allRgb

/-- The commands that are sequences of others (R244). -/
def Composite : Instr → Prop
  | .encblk => True
  | .decblk => True
  | _ => False

/-- The constituents of ENCBLK in order (R241). -/
def encblkCommands : List Instr :=
  [.cscf 0, .cscf 1, .cscf 2, .cscf 3, .btf, .cavg, .qdc, .qac, .qch, .pack]

/-- The constituents of DECBLK in order (R242). -/
def decblkCommands : List Instr :=
  [.unpack, .dqdc, .dqac, .dqch, .bti, .crep, .csci 0, .csci 1, .csci 2, .csci 3]

/-- The constituents of a composite, none for a single-stage command (R241, R242). -/
def constituents : Instr → List Instr
  | .encblk => encblkCommands
  | .decblk => decblkCommands
  | _ => []

/-- Run commands one after another, each in the state the one before it left (R244). -/
def runCommands : List Instr → State → Answer
  | [], s => .next s
  | c :: cs, s => andThen (exec c s) (runCommands cs)

/-- Two states hold the same in a data register, its written mark included. -/
def Agree (s t : State) : Reg → Prop
  | .num n => s.number n = t.number n
  | .q k => sixPart s.q k = sixPart t.q k
  | .v => s.v = t.v
  | .w => s.w = t.w
  | .r => s.r = t.r
  | .cw => s.cw = t.cw
  | .t => s.t = t.t

/-- A data register is unwritten (R22). -/
def Unwritten (s : State) : Reg → Prop
  | .num n => s.number n = none
  | .q k => sixPart s.q k = none
  | .v => s.v = none
  | .w => s.w = none
  | .r => s.r = none
  | .cw => s.cw = none
  | .t => s.t = none

/-- The core of two states is the same: every data register and `FAULT` (R20), and the configuration. -/
def SameCore (s t : State) : Prop := (∀ x, Agree s t x) ∧ s.fault = t.fault ∧ s.config = t.config

/-- `FAULT` holds one of the values R27 and R260 allow: a code 0 to 5, and an `info` that is 0 but for an
OUT_OF_RANGE, where it is at most 6. -/
def FaultLegal (s : State) : Prop :=
  s.faultCode.toNat ≤ 5 ∧ s.faultInfo.toNat ≤ 6 ∧ (s.faultInfo ≠ 0 → s.faultCode = 1)

/-- A number of the kind an instance's registers hold (R21, R32). -/
def Number.ofKind : PNum → Number → Prop
  | .binary32, .pattern _ => True
  | .binary32, .zero => True
  | .binary32, .rational _ => False
  | .exact, .pattern _ => False
  | .exact, .zero => False
  | .exact, .rational _ => True

/-- What `P_CHROMA` must be: sixteen finite numbers of the instance, strictly increasing (R10, R29, R294). -/
def Config.Valid (c : Config) : Prop :=
  (∀ x ∈ c.chroma.toList, Number.ofKind c.pnum x ∧ numberValue x ≠ none) ∧
    (chromaValues c).Pairwise (· < ·)

/-- Every written numeric register holds a number of the instance (R21). -/
def NumbersOfKind (s : State) : Prop :=
  ∀ n x, s.number n = some x → Number.ofKind s.config.pnum x

/-- No written numeric register holds an infinity or a NaN (R112). -/
def NumbersFinite (s : State) : Prop := ∀ n x, s.number n = some x → numberValue x ≠ none

/-- The invariant of the machine: `FAULT` legal (R27), the configuration valid (R294), numbers of the right
kind (R21). -/
def Invariant (s : State) : Prop := FaultLegal s ∧ s.config.Valid ∧ NumbersOfKind s

/-- A host action that gives each kind of register the kind of value it takes (R31, R32). -/
def ActionFits (m : PNum) : HostAction → Prop
  | .write n (.word _) =>
    match hostReg n with
    | some (.data (.num _)) => m = .binary32
    | _ => True
  | .write n (.rational _) =>
    match hostReg n with
    | some (.data (.num _)) => m = .exact
    | some (.data (.q _)) => False
    | some (.data .v) => False
    | some (.data .w) => False
    | some (.data .cw) => False
    | _ => True
  | .read _ => True
  | .command _ => True
  | .reset => True

/-- The formats of R75. -/
inductive Format where
  | z
  | x
  | f
  | b
  deriving DecidableEq, Repr

/-- The column "format" of R76, `none` for an `op` that is not one of the 22 values. -/
def formatOf (op : Nat) : Option Format :=
  if op ∈ [0x0A, 0x0B, 0x0C, 0x0D, 0x10, 0x11, 0x12, 0x14, 0x15, 0x16, 0x18, 0x19, 0x1C, 0x1D] then some .z
  else if op ∈ [0x08, 0x09] then some .x
  else if op ∈ [0x01, 0x02] then some .f
  else if op ∈ [0x03, 0x04, 0x05, 0x06] then some .b
  else none

/-- The fields a format says must be zero are zero (R75). -/
def UnusedZero (k : Format) (f : Fields) : Prop :=
  match k with
  | .z => f.width = 0 ∧ f.lsb = 0 ∧ f.idx = 0
  | .x => f.width = 0 ∧ f.lsb = 0
  | .f => f.lsb = 0 ∧ f.idx = 0
  | .b => f.idx = 0

/-- A command word is illegal in exactly these three cases (R78). -/
def IllegalWord (w : Word32) : Prop :=
  match formatOf (fieldsOf w).op.toNat with
  | none => True
  | some k => ¬ UnusedZero k (fieldsOf w) ∨ (k = .x ∧ 3 < (fieldsOf w).idx.toNat)

/-- The finite binary32 values (R105). -/
def OnGrid (x : Rat) : Prop :=
  x = 0 ∨ ∃ (m : Nat) (e : Int), 1 ≤ m ∧ m < 2 ^ 24 ∧ -149 ≤ e ∧ e ≤ 104 ∧ |x| = m * (2 : Rat) ^ e

/-- A sum taken left to right, each addition rounded (R115). -/
def roundedSum (m : PNum) (acc : Rat) : List Rat → Option Rat
  | [] => some acc
  | x :: xs =>
    match roundTo m (acc + x) with
    | some y => roundedSum m y xs
    | none => none

/-- A sum of rounded products, `coefficient * value` each, taken left to right (R115). -/
def roundedDot (m : PNum) (terms : List (Rat × Rat)) : Option Rat :=
  match terms.mapM fun t => roundTo m (lit m t.1 * t.2) with
  | some (x :: xs) => roundedSum m x xs
  | _ => none

/-- A value plus rounded products, each addition rounded, left to right (R115, R152). -/
def roundedAffine (m : PNum) (acc : Rat) (terms : List (Rat × Rat)) : Option Rat :=
  match terms.mapM fun t => roundTo m (lit m t.1 * t.2) with
  | some xs => roundedSum m acc xs
  | none => none

/-- A rounded sum divided by 4 (R171, R173). -/
def roundedQuarter (m : PNum) (x : Rat) (xs : List Rat) : Option Rat :=
  match roundedSum m x xs with
  | some y => roundTo m (y / 4)
  | none => none

/-- `k` is the 9-bit code of the luma average `x` (R191, R196): the scaled and rounded value's floor, in range,
saturating below 0 and above 1, and under EXACT the code whose interval holds `x`. -/
def IsDcCode (m : PNum) (x : Rat) (k : Nat) : Prop :=
  k ≤ 511 ∧ (x ≤ 0 → k = 0) ∧ (1 ≤ x → k = 511) ∧
    (∃ u z, roundTo m (max 0 (min x 1) * 511) = some u ∧ roundTo m (u + 1 / 2) = some z ∧ (k : Int) = ⌊z⌋) ∧
    (m = .exact → 0 ≤ x → x ≤ 1 → ((k : Rat) - 1 / 2) / 511 ≤ x ∧ x < ((k : Rat) + 1 / 2) / 511)

/-- `k` is the 5-bit code of the luma difference `x` (R192, R193): clamped to the limit, scaled, rounded and
floored, in `[-15, 15]`, saturating at the limit, and under EXACT the code whose interval holds `x`. -/
def IsAcCode (m : PNum) (x : Rat) (k : Int) : Prop :=
  (-15 ≤ k ∧ k ≤ 15) ∧ (lit m (3 / 10) ≤ x → k = 15) ∧ (x ≤ -lit m (3 / 10) → k = -15) ∧
    (∃ u v z, roundTo m (max (-lit m (3 / 10)) (min x (lit m (3 / 10))) / lit m (3 / 10)) = some u ∧
      roundTo m (u * 15) = some v ∧ roundTo m (v + 1 / 2) = some z ∧ k = ⌊z⌋) ∧
    (m = .exact → -14 ≤ k → k ≤ 14 →
      ((k : Rat) - 1 / 2) * (2 / 100) ≤ x ∧ x < ((k : Rat) + 1 / 2) * (2 / 100))

/-- `x` is the value of the luma-difference code `k` (R194): divided by 15, then times the limit. -/
def IsAcValue (m : PNum) (k : Int) (x : Rat) : Prop :=
  ∃ u, roundTo m ((k : Rat) / 15) = some u ∧ roundTo m (u * lit m (3 / 10)) = some x

/-- The value of `CHROMA[j]` (R29). -/
def chromaAt (c : Config) (j : Nat) : Rat := (chromaValues c).getD j 0

/-- `j` is an index `index_of(v)` may return (R202): a nearest entry, and the lowest one under
`P_TIE = LOWEST`. -/
def IsIndexOf (c : Config) (v : Rat) (j : Nat) : Prop :=
  j ≤ 15 ∧ (∀ k, k ≤ 15 → |chromaAt c j - v| ≤ |chromaAt c k - v|) ∧
    (c.tie = .lowest → ∀ k, k < j → |chromaAt c j - v| < |chromaAt c k - v|)

/-- The codeword of six field values by the formula of R71. -/
def codeword (a : Nat) (b c d : Int) (pb pr : Nat) : Nat :=
  a * 2 ^ 23 + (b % 32).toNat * 2 ^ 18 + (c % 32).toNat * 2 ^ 13 + (d % 32).toNat * 2 ^ 8 + pb * 2 ^ 4 + pr

/-- A 5-bit field read as signed (R71). -/
def signed5 (u : Nat) : Int := if 16 ≤ u then (u : Int) - 32 else u

/-- The six `Q` registers hold values that fit their fields (R220). -/
def FieldsFit (q : Six Word64) : Prop :=
  q.a.toNat ≤ 511 ∧ (-16 ≤ q.b.toInt ∧ q.b.toInt ≤ 15) ∧ (-16 ≤ q.c.toInt ∧ q.c.toInt ≤ 15) ∧
    (-16 ≤ q.d.toInt ∧ q.d.toInt ≤ 15) ∧ q.pb.toNat ≤ 15 ∧ q.pr.toNat ≤ 15

end Sys2Proof
end

