-- ==== Sys2Proof/Certificates/Slice0/Obligations.lean ====
section
/-! DEFINITION. The statements for the provers. Each docstring names the rule it formalises. A fault is written as
the byte it leaves in `FAULT`: `info` in the high half, the code of R27 in the low half. -/

open Sys2Proof Sys2Proof.Machine

/-! ### Encodings (30_encoding.md) -/

/-- Command words written out from R76, one or more of each format, decode to the commands they stand for (the
examples of R80), and words of each illegal case do not. -/
def Obligations.KnownCommandWordsDecode : Prop :=
  decode 0x04060200 = .ok (.gets 6 2) ∧ decode 0x05091700 = .ok (.setu 9 23) ∧
    decode 0x02050000 = .ok (.fitss 5) ∧ decode 0x08000003 = .ok (.cscf 3) ∧
    decode 0x18000000 = .ok .pack ∧ decode 0x1D000000 = .ok .decblk ∧ decode 0x16000000 = .ok .dqch ∧
    decode 0x07000000 = .error (.unknownOp 0x07) ∧ decode 0x18000001 = .error .unusedFieldNotZero ∧
    decode 0x08000004 = .error (.pixelIndexAbove3 4)

/-- R73, R75, R76: the word of every well-formed command decodes to that command, every operand field at every
value. -/
def Obligations.DecodeOfEncode : Prop :=
  ∀ i : Instr, i.wellFormed = true → decode (encode i) = .ok i

/-- R78: a word that decodes is the one word of its command, which is well formed. -/
def Obligations.DecodedWordIsItsEncoding : Prop :=
  ∀ (w : Word32) (i : Instr), decode w = .ok i → i.wellFormed = true ∧ encode i = w

/-- R76: decoding follows the `match` and `mask` columns. A word that decodes matches the row of its mnemonic; a
word that matches a row decodes to it, or is a CSCF or CSCI whose `idx` exceeds 3; no word matches two
rows. -/
def Obligations.DecodeFollowsTheOpcodeMap : Prop :=
  ∀ w : Word32,
    (∀ i, decode w = .ok i →
      ∃ row ∈ opcodeMap, row.mnemonic = i.mnemonic ∧ w &&& row.mask = row.pattern) ∧
    (∀ row ∈ opcodeMap, w &&& row.mask = row.pattern →
      (∃ i, decode w = .ok i ∧ i.mnemonic = row.mnemonic) ∨
        ((row.mnemonic = "CSCF" ∨ row.mnemonic = "CSCI") ∧
          ∃ x, decode w = .error (.pixelIndexAbove3 x) ∧ 3 < x.toNat)) ∧
    ∀ row ∈ opcodeMap, ∀ row' ∈ opcodeMap, w &&& row.mask = row.pattern →
      w &&& row'.mask = row'.pattern → row = row'

/-- R78: a command word is illegal in exactly three cases (`IllegalWord`), and a running core that is given one
raises ILLEGAL_CMD; any other word, whatever its `width` and `lsb`, selects a command. -/
def Obligations.IllegalCommandWordsExactly : Prop :=
  ∀ w : Word32,
    (IllegalWord w ↔ ∃ r, decode w = .error r) ∧
    (∀ s, Running s → IllegalWord w → hostCommand w s = .next { s with fault := 0x03 }) ∧
    (¬ IllegalWord w → ∃ i, decode w = .ok i ∧ ∀ s, hostCommand w s = exec i s) ∧
    (∀ s i v w', Running s → decode w = .ok i → s.v = some v → s.w = some w' →
      (∀ width, i = .fitsu width ∨ i = .fitss width → ¬ (1 ≤ width.toNat ∧ width.toNat ≤ 64) →
        hostCommand w s = .next { s with fault := 0x02 }) ∧
      (∀ width lsb, i = .getu width lsb ∨ i = .gets width lsb ∨ i = .setu width lsb ∨ i = .sets width lsb →
        ¬ (1 ≤ width.toNat ∧ lsb.toNat + width.toNat ≤ 64) →
        hostCommand w s = .next { s with fault := 0x02 }))

/-! ### The host port, reset and the halted core (10_state.md, 60_exceptions.md, 70_reset_and_hazards.md) -/

/-- A step runs the decoded command (R74, R296): the next host action leaves the list and is done on the rest;
a command word that decodes to a well-formed command runs it; with no action pending the core waits
(R292). The list of actions is the model's own (log 6). -/
def Obligations.StepRunsTheDecodedCommand : Prop :=
  (∀ s w rest i, s.pending = .command w :: rest → decode w = .ok i →
    i.wellFormed = true ∧ step s = exec i { s with pending := rest }) ∧
  (∀ s a rest, s.pending = a :: rest → step s = hostAction a { s with pending := rest }) ∧
  (∀ s, s.pending = [] → step s = .next s) ∧
  ∀ (s : State) (i : Instr), i.wellFormed = true →
    step (s.withFetchWord 32 (encode i).toNat) = exec i s

/-- R267: while halted every command is dropped and every host write ignored, a host read works and changes no
register, and HostReset gives a running core. -/
def Obligations.HaltedCoreHonoursOnlyReadAndReset : Prop :=
  ∀ s : State, s.halted = true →
    (∀ i, exec i s = .next s) ∧ (∀ w, hostAction (.command w) s = .next s) ∧
    (∀ n v, hostAction (.write n v) s = .next s) ∧
    (∀ n, hostAction (.read n) s =
      .next { s with answer := some (hostReadValue s n), fresh := s.fresh + 1 }) ∧
    hostReadValue s 0x05 = .word (s.fault.setWidth 64) ∧
    ∃ t, hostAction .reset s = .next t ∧ Running t

/-- R290: HostReset, at any time, halted or not, leaves `FAULT = 0x00` and every data register unwritten, and
touches nothing else; `State.reset`, the state at power-on, is such a state; and a halted core honours no other
action but a read, so no other clears `FAULT`. -/
def Obligations.HostResetLeavesEveryRegisterUnwritten : Prop :=
  (∀ s : State, ∃ t, hostAction .reset s = .next t ∧ t.fault = 0x00 ∧ (∀ x, Unwritten t x) ∧
    t.config = s.config ∧ t.pending = s.pending ∧ t.answer = s.answer ∧ t.fresh = s.fresh) ∧
  (State.reset.fault = 0x00 ∧ ∀ x, Unwritten State.reset x) ∧
  ∀ (s : State) (a : HostAction), s.halted = true → a ≠ .reset →
    ∃ t, hostAction a s = .next t ∧ t.fault = s.fault ∧ ((∀ n, a ≠ .read n) → t = s)

/-- R30: the host register numbers; every number not in the table is unassigned. -/
def Obligations.HostRegisterNumbers : Prop :=
  hostReg 0x00 = some (.data .v) ∧ hostReg 0x01 = some (.data .w) ∧ hostReg 0x02 = some (.data .r) ∧
    hostReg 0x03 = some (.data .t) ∧ hostReg 0x04 = some (.data .cw) ∧ hostReg 0x05 = some .fault ∧
    (∀ (p : Pixel) (k : RgbPart), hostReg (BitVec.ofNat 8 (0x10 + 3 * p.index +
      match k with | .r => 0 | .g => 1 | .b => 2)) = some (.data (.num (.rgb p k)))) ∧
    (∀ (p : Pixel) (k : YppPart), hostReg (BitVec.ofNat 8 (0x20 + 3 * p.index +
      match k with | .y => 0 | .pb => 1 | .pr => 2)) = some (.data (.num (.ypp p k)))) ∧
    (∀ k : Part, hostReg (BitVec.ofNat 8 (0x30 +
      match k with | .a => 0 | .b => 1 | .c => 2 | .d => 3 | .pb => 4 | .pr => 5)) =
        some (.data (.num (.coef k)))) ∧
    (∀ k : Part, hostReg (BitVec.ofNat 8 (0x38 +
      match k with | .a => 0 | .b => 1 | .c => 2 | .d => 3 | .pb => 4 | .pr => 5)) = some (.data (.q k))) ∧
    (∀ j, j ≤ 15 → hostReg (BitVec.ofNat 8 (0x40 + j)) = some (.chroma j)) ∧
    ∀ n : Byte, hostReg n = none ↔
      ¬ (n.toNat ≤ 0x05 ∨ (0x10 ≤ n.toNat ∧ n.toNat ≤ 0x1B) ∨ (0x20 ≤ n.toNat ∧ n.toNat ≤ 0x2B) ∨
        (0x30 ≤ n.toNat ∧ n.toNat ≤ 0x35) ∨ (0x38 ≤ n.toNat ∧ n.toNat ≤ 0x3D) ∨
        (0x40 ≤ n.toNat ∧ n.toNat ≤ 0x4F))

/-- R31, R32, R57: HostWrite on a running core sets the register the number names to the value, truncated to its
width, marks it written and touches nothing else; on a read-only or an unassigned number it does nothing. -/
def Obligations.HostWriteSetsOneRegister : Prop :=
  ∀ s : State, Running s →
    (∀ x, hostAction (.write 0x00 (.word x)) s = .next { s with v := some x }) ∧
    (∀ x, hostAction (.write 0x01 (.word x)) s = .next { s with w := some x }) ∧
    (∀ x, hostAction (.write 0x04 (.word x)) s = .next { s with cw := some (x.setWidth 32) }) ∧
    (∀ n k x, hostReg n = some (.data (.q k)) → ∃ t, hostAction (.write n (.word x)) s = .next t ∧
      sixPart t.q k = some x ∧ (∀ y, y ≠ .q k → Agree s t y) ∧ t = { s with q := t.q }) ∧
    (∀ n k x, hostReg n = some (.data (.num k)) → s.config.pnum = .binary32 →
      ∃ t, hostAction (.write n (.word x)) s = .next t ∧ t.number k = some (.pattern (x.setWidth 32)) ∧
        (∀ y, y ≠ .num k → Agree s t y) ∧ t = { s with rgb := t.rgb, ypp := t.ypp, coef := t.coef }) ∧
    (∀ n k x, hostReg n = some (.data (.num k)) → s.config.pnum = .exact →
      ∃ t, hostAction (.write n (.rational x)) s = .next t ∧ t.number k = some (.rational x) ∧
        (∀ y, y ≠ .num k → Agree s t y) ∧ t = { s with rgb := t.rgb, ypp := t.ypp, coef := t.coef }) ∧
    ∀ (n : Byte) (v : HostData),
      (hostReg n = none ∨ hostReg n = some (.data .r) ∨ hostReg n = some (.data .t) ∨
        hostReg n = some .fault ∨ ∃ j, hostReg n = some (.chroma j)) →
      hostAction (.write n v) s = .next s

/-- R31, R32: HostRead changes no register, no fault and no configuration, and returns the register's value
zero-extended; a zero that a command produced reads with either sign bit (U3). -/
def Obligations.HostReadReturnsTheRegister : Prop :=
  ∀ (s : State) (n : Byte), ∃ t d, hostAction (.read n) s = .next t ∧ t.answer = some d ∧ SameCore s t ∧
    t.pending = s.pending ∧
    (∀ x, hostReg n = some (.data .v) → s.v = some x → d = .word x) ∧
    (∀ x, hostReg n = some (.data .w) → s.w = some x → d = .word x) ∧
    (∀ x, hostReg n = some (.data .r) → s.r = some x → d = .word x) ∧
    (∀ x, hostReg n = some (.data .cw) → s.cw = some x → d = .word (x.setWidth 64)) ∧
    (∀ x, hostReg n = some (.data .t) → s.t = some x → d = .word (if x then 1 else 0)) ∧
    (hostReg n = some .fault → d = .word (s.fault.setWidth 64)) ∧
    (∀ k x, hostReg n = some (.data (.q k)) → sixPart s.q k = some x → d = .word x) ∧
    (∀ k x, hostReg n = some (.data (.num k)) → s.number k = some (.pattern x) →
      d = .word (x.setWidth 64)) ∧
    (∀ k x, hostReg n = some (.data (.num k)) → s.number k = some (.rational x) → d = .rational x) ∧
    (∀ k, hostReg n = some (.data (.num k)) → s.number k = some .zero →
      d = .word 0x00000000 ∨ d = .word 0x80000000) ∧
    (∀ j p, hostReg n = some (.chroma j) → s.config.chroma.toList[j]? = some (.pattern p) →
      d = .word (p.setWidth 64)) ∧
    (∀ j q, hostReg n = some (.chroma j) → s.config.chroma.toList[j]? = some (.rational q) →
      d = .rational q)

/-- A step always answers a next state, but for a HostWrite that carries a value of the other instance's kind to a
register of a running core, which is refused by name. The refusal is the model's choice (log 12). -/
def Obligations.StepStopsOnlyOnAForeignHostValue : Prop :=
  ∀ s : State, (∃ t, step s = .next t) ∨
    (step s = .refused .hostValueOfOtherKind ∧ Running s ∧
      ∃ n v rest, s.pending = .write n v :: rest ∧ ¬ ActionFits s.config.pnum (.write n v))

/-! ### The Bit-Field Codec (41_bitfield.md) -/

/-- R131, R132: FITSU sets `T` to whether `u64(V)` fits in `width` bits, FITSS to whether `i64(V)` fits in `width`
bits of two's complement (which is to say, whether `V` is its low `width` bits sign-extended); neither changes
anything else. -/
def Obligations.FitsCommandsSetThePredicate : Prop :=
  ∀ (s : State) (width : Byte) (v : Word64), Running s → s.v = some v →
    1 ≤ width.toNat → width.toNat ≤ 64 →
    exec (.fitsu width) s = .next { s with t := some (decide (v.toNat < 2 ^ width.toNat)) } ∧
    ∃ b, exec (.fitss width) s = .next { s with t := some b } ∧
      (b = true ↔ -2 ^ (width.toNat - 1) ≤ v.toInt ∧ v.toInt ≤ 2 ^ (width.toNat - 1) - 1) ∧
      (b = true ↔ (v.setWidth width.toNat).signExtend 64 = v)

/-- R133, R134: GETU puts `W[lsb+width-1 : lsb]` in `R`, zero-extended; GETS puts the same span there with its top
bit repeated above it; neither changes anything else. -/
def Obligations.GetCommandsReadTheSpan : Prop :=
  ∀ (s : State) (width lsb : Byte) (w : Word64), Running s → s.w = some w →
    1 ≤ width.toNat → lsb.toNat + width.toNat ≤ 64 →
    (∃ r : Word64, exec (.getu width lsb) s = .next { s with r := some r } ∧
      ∀ i, r.getLsbD i = (decide (i < width.toNat) && w.getLsbD (lsb.toNat + i))) ∧
    ∃ r : Word64, exec (.gets width lsb) s = .next { s with r := some r } ∧
      ∀ i, i < 64 → r.getLsbD i =
        if i < width.toNat then w.getLsbD (lsb.toNat + i) else w.getLsbD (lsb.toNat + width.toNat - 1)

/-- R135, R136: SETU replaces the span of `W` by the low bits of a `V` that fits unsigned, SETS by the low bits of a
`V` that fits as two's complement; the other bits of `W` and every other register stay. -/
def Obligations.SetCommandsWriteTheSpan : Prop :=
  ∀ (s : State) (width lsb : Byte) (w v : Word64), Running s → s.w = some w → s.v = some v →
    1 ≤ width.toNat → lsb.toNat + width.toNat ≤ 64 →
    ∃ w' : Word64,
      (∀ i, i < 64 → w'.getLsbD i =
        if lsb.toNat ≤ i ∧ i < lsb.toNat + width.toNat then v.getLsbD (i - lsb.toNat) else w.getLsbD i) ∧
      (v.toNat < 2 ^ width.toNat → exec (.setu width lsb) s = .next { s with w := some w' }) ∧
      (-2 ^ (width.toNat - 1) ≤ v.toInt → v.toInt < 2 ^ (width.toNat - 1) →
        exec (.sets width lsb) s = .next { s with w := some w' })

/-- R130, R139, R270: the faults of the six bit-field commands in their order: UNWRITTEN, then PRECONDITION, then
(SETU and SETS) OUT_OF_RANGE; each writes nothing but `FAULT`. -/
def Obligations.BitFieldFaultsInOrder : Prop :=
  ∀ (s : State) (width lsb : Byte), Running s →
    (∀ i, i = .fitsu width ∨ i = .fitss width →
      (s.v = none → exec i s = .next { s with fault := 0x05 }) ∧
      (∀ v, s.v = some v → ¬ (1 ≤ width.toNat ∧ width.toNat ≤ 64) →
        exec i s = .next { s with fault := 0x02 })) ∧
    (∀ i, i = .getu width lsb ∨ i = .gets width lsb →
      (s.w = none → exec i s = .next { s with fault := 0x05 }) ∧
      (∀ w, s.w = some w → ¬ (1 ≤ width.toNat ∧ lsb.toNat + width.toNat ≤ 64) →
        exec i s = .next { s with fault := 0x02 })) ∧
    (∀ i, i = .setu width lsb ∨ i = .sets width lsb →
      (s.w = none ∨ s.v = none → exec i s = .next { s with fault := 0x05 }) ∧
      (∀ w v, s.w = some w → s.v = some v → ¬ (1 ≤ width.toNat ∧ lsb.toNat + width.toNat ≤ 64) →
        exec i s = .next { s with fault := 0x02 })) ∧
    (∀ w v, s.w = some w → s.v = some v → 1 ≤ width.toNat → lsb.toNat + width.toNat ≤ 64 →
      (2 ^ width.toNat ≤ v.toNat → exec (.setu width lsb) s = .next { s with fault := 0x01 }) ∧
      (v.toInt < -2 ^ (width.toNat - 1) ∨ 2 ^ (width.toNat - 1) ≤ v.toInt →
        exec (.sets width lsb) s = .next { s with fault := 0x01 }))

/-- R137: a get after a set of the same span returns the value, unsigned and signed, from any starting word; a get
of a disjoint span returns what it returned before. -/
def Obligations.GetAfterSetRoundTrips : Prop :=
  ∀ (word : Word64) (width lsb : Nat), 1 ≤ width → lsb + width ≤ 64 →
    (∀ value : Nat, fitsUnsigned value width = true →
      getUnsigned (setUnsigned word width lsb value) width lsb = value) ∧
    (∀ value : Int, fitsSigned value width = true →
      getSigned (setSigned word width lsb value) width lsb = value) ∧
    ∀ width' lsb', 1 ≤ width' → lsb' + width' ≤ 64 → (lsb' + width' ≤ lsb ∨ lsb + width ≤ lsb') →
      (∀ value : Nat, fitsUnsigned value width = true →
        getUnsigned (setUnsigned word width lsb value) width' lsb' = getUnsigned word width' lsb' ∧
        getSigned (setUnsigned word width lsb value) width' lsb' = getSigned word width' lsb') ∧
      (∀ value : Int, fitsSigned value width = true →
        getUnsigned (setSigned word width lsb value) width' lsb' = getUnsigned word width' lsb' ∧
        getSigned (setSigned word width lsb value) width' lsb' = getSigned word width' lsb')

/-! ### Numbers (40_numerics.md) -/

/-- R107, R105: rounding overflows exactly from `2^128 - 2^103` on; otherwise it answers a value of the grid, none
of the grid is nearer, and of two equally near it takes the even multiple of the grid's step. -/
def Obligations.RoundingIsNearestTiesToEven : Prop :=
  ∀ x : Rat,
    (roundBinary32 x = none ↔ 2 ^ 128 - 2 ^ 103 ≤ |x|) ∧
    ∀ y, roundBinary32 x = some y →
      OnGrid y ∧ ∀ z, OnGrid z → |x - y| ≤ |x - z| ∧
        (z ≠ y → |x - y| = |x - z| → ∃ k : Int, y = 2 * k * gridStep x)

/-- R105, R106: a finite pattern denotes a value of the grid; every value of the grid has a pattern that denotes it;
and the pattern of a non-zero value is the only one. -/
def Obligations.PatternsDenoteTheGrid : Prop :=
  (∀ p x, binary32Value p = some x → OnGrid x ∧ (x ≠ 0 → binary32Pattern x = p)) ∧
    (∀ x, OnGrid x → binary32Value (binary32Pattern x) = some x) ∧
    ∀ p : BitVec 32, binary32Value p = none ↔ (p.extractLsb' 23 8) = 0xFF

/-- R116: the constants of the rules, each with its BINARY32 pattern and the exact value of the BINARY32 constant;
under EXACT a constant is the decimal itself. -/
def Obligations.ConstantsHaveTheirPatterns : Prop :=
  (∀ x : Rat × BitVec 32 × Rat, x ∈
    ([(299 / 1000, 0x3E991687, 2989999949932098388671875 / 10 ^ 25),
      (587 / 1000, 0x3F1645A2, 58700001239776611328125 / 10 ^ 23),
      (114 / 1000, 0x3DE978D5, 114000000059604644775390625 / 10 ^ 27),
      (168736 / 10 ^ 6, 0x3E2CC921, 16873599588871002197265625 / 10 ^ 26),
      (331264 / 10 ^ 6, 0x3EA99B6F, 3312639892101287841796875 / 10 ^ 25),
      (5 / 10, 0x3F000000, 5 / 10),
      (418688 / 10 ^ 6, 0x3ED65E46, 418687999248504638671875 / 10 ^ 24),
      (81312 / 10 ^ 6, 0x3DA686E8, 81312000751495361328125 / 10 ^ 24),
      (1402 / 1000, 0x3FB374BC, 1401999950408935546875 / 10 ^ 21),
      (344136 / 10 ^ 6, 0x3EB03298, 3441359996795654296875 / 10 ^ 22),
      (714136 / 10 ^ 6, 0x3F36D19E, 71413600444793701171875 / 10 ^ 23),
      (1772 / 1000, 0x3FE2D0E5, 177199995517730712890625 / 10 ^ 23),
      (4, 0x40800000, 4), (3 / 10, 0x3E99999A, 300000011920928955078125 / 10 ^ 24),
      (15, 0x41700000, 15), (511, 0x43FF8000, 511), (0, 0x00000000, 0), (1, 0x3F800000, 1)] :
      List (Rat × BitVec 32 × Rat)) →
    lit .binary32 x.1 = x.2.2 ∧ binary32Value x.2.1 = some x.2.2) ∧
  ∀ x, lit .exact x = x

/-- R112: no command ever writes a non-finite value. Where no numeric register and no table entry holds one, none
does after any command. -/
def Obligations.CommandsNeverStoreANonfinite : Prop :=
  ∀ (i : Instr) (s t : State), s.config.Valid → NumbersFinite s → exec i s = .next t → NumbersFinite t

/-- R104, R264: under EXACT no command raises NONFINITE. -/
def Obligations.ExactNeverRaisesNonfinite : Prop :=
  ∀ (i : Instr) (s t : State), Invariant s → Running s → s.config.pnum = .exact → exec i s = .next t →
    t.faultCode ≠ 4

/-! ### The Color Space Converter (42_colorspace.md) -/

/-- R151, R153, R115: CSCF writes to `YPP[idx]` the three rows of the forward matrix applied to finite `RGB[idx]`, in
the contract range or not (R156), each product rounded and then added left to right, and nothing else;
ILLEGAL_CMD when `idx > 3`. -/
def Obligations.CscfAppliesTheForwardMatrix : Prop :=
  ∀ (s : State) (idx : Byte), Running s →
    (∀ (p : Pixel) (n : Rgb Number) (x : Rgb Rat), idx.toNat = p.index → s.rgb.get p = n.map some →
      n.map numberValue = x.map some →
      ∀ y pb pr,
        roundedDot s.config.pnum [(299 / 1000, x.r), (587 / 1000, x.g), (114 / 1000, x.b)] = some y →
        roundedDot s.config.pnum [(-168736 / 10 ^ 6, x.r), (-331264 / 10 ^ 6, x.g), (5 / 10, x.b)] = some pb →
        roundedDot s.config.pnum [(5 / 10, x.r), (-418688 / 10 ^ 6, x.g), (-81312 / 10 ^ 6, x.b)] = some pr →
        exec (.cscf idx) s = .next { s with ypp := (s.ypp.set p
          ⟨some (numberOf s.config.pnum y), some (numberOf s.config.pnum pb),
            some (numberOf s.config.pnum pr)⟩) }) ∧
    (3 < idx.toNat → exec (.cscf idx) s = .next { s with fault := 0x03 })

/-- R112, R155: with `r`, `g`, `b` in `[0, 1]` CSCF cannot fault, in either instance, and its results are below 2 in
magnitude; under EXACT luma lies in `[0, 1]` and each chroma in `[-1/2, 1/2]`. -/
def Obligations.CscfNeverFaultsInContract : Prop :=
  ∀ (s : State) (idx : Byte) (p : Pixel) (n : Rgb Number) (x : Rgb Rat), Running s → idx.toNat = p.index →
    s.rgb.get p = n.map some → n.map numberValue = x.map some →
    0 ≤ x.r → x.r ≤ 1 → 0 ≤ x.g → x.g ≤ 1 → 0 ≤ x.b → x.b ≤ 1 →
    ∃ z : Ypp Rat, exec (.cscf idx) s =
        .next { s with ypp := s.ypp.set p (z.map fun q => some (numberOf s.config.pnum q)) } ∧
      |z.y| < 2 ∧ |z.pb| < 2 ∧ |z.pr| < 2 ∧
      (s.config.pnum = .exact → 0 ≤ z.y ∧ z.y ≤ 1 ∧ |z.pb| ≤ 1 / 2 ∧ |z.pr| ≤ 1 / 2)

/-- R152, R154, R115: CSCI writes to `RGB[idx]` luma plus the rounded chroma products of the inverse matrix, added
left to right, unclamped, and nothing else; NONFINITE when a step overflows, ILLEGAL_CMD when `idx > 3`. -/
def Obligations.CsciAppliesTheInverseMatrix : Prop :=
  ∀ (s : State) (idx : Byte), Running s →
    (∀ (p : Pixel) (n : Ypp Number) (x : Ypp Rat), idx.toNat = p.index → s.ypp.get p = n.map some →
      n.map numberValue = x.map some →
      (∀ r g b,
        roundedAffine s.config.pnum x.y [(1402 / 1000, x.pr)] = some r →
        roundedAffine s.config.pnum x.y [(-344136 / 10 ^ 6, x.pb), (-714136 / 10 ^ 6, x.pr)] = some g →
        roundedAffine s.config.pnum x.y [(1772 / 1000, x.pb)] = some b →
        exec (.csci idx) s = .next { s with rgb := (s.rgb.set p
          ⟨some (numberOf s.config.pnum r), some (numberOf s.config.pnum g),
            some (numberOf s.config.pnum b)⟩) }) ∧
      (roundedAffine s.config.pnum x.y [(1402 / 1000, x.pr)] = none ∨
        roundedAffine s.config.pnum x.y [(-344136 / 10 ^ 6, x.pb), (-714136 / 10 ^ 6, x.pr)] = none ∨
        roundedAffine s.config.pnum x.y [(1772 / 1000, x.pb)] = none →
        exec (.csci idx) s = .next { s with fault := 0x04 })) ∧
    (3 < idx.toNat → exec (.csci idx) s = .next { s with fault := 0x03 })

/-- R157, under EXACT: CSCI after CSCF multiplies the pixel by the printed product matrix, which is not the
identity. -/
def Obligations.ColourRoundTripIsTheProductMatrix : Prop :=
  ∀ (s : State) (idx : Byte) (p : Pixel) (r g b : Rat), Running s → s.config.pnum = .exact →
    idx.toNat = p.index → s.rgb.get p = ⟨some (.rational r), some (.rational g), some (.rational b)⟩ →
    ∃ t u, exec (.cscf idx) s = .next t ∧ exec (.csci idx) t = .next u ∧
      u.rgb.get p =
        ⟨some (.rational (r - 576 / 10 ^ 9 * g + 576 / 10 ^ 9 * b)),
          some (.rational (132096 / 10 ^ 12 * r + 1000000041472 / 10 ^ 12 * g - 173568 / 10 ^ 12 * b)),
          some (.rational (-(192 / 10 ^ 9) * r + 192 / 10 ^ 9 * g + b))⟩

/-! ### The Block Transform (43_blocktransform.md) -/

/-- R171, R175, R115: BTF writes to `COEF.a` to `COEF.d` the four signed sums of the samples in the printed order,
each quartered, and nothing else; NONFINITE when a step overflows. -/
def Obligations.BtfTakesTheFourSignedMeans : Prop :=
  ∀ (s : State) (n : Quad Number) (y1 y2 y3 y4 : Rat), Running s → (s.ypp.map fun z => z.y) = n.map some →
    n.map numberValue = ⟨some y1, some y2, some y3, some y4⟩ →
    (∀ a b c d,
      roundedQuarter s.config.pnum y1 [y2, y3, y4] = some a →
      roundedQuarter s.config.pnum y4 [y3, -y2, -y1] = some b →
      roundedQuarter s.config.pnum y4 [-y3, y2, -y1] = some c →
      roundedQuarter s.config.pnum y4 [-y3, -y2, y1] = some d →
      exec .btf s = .next { s with coef := { s.coef with
        a := some (numberOf s.config.pnum a), b := some (numberOf s.config.pnum b),
        c := some (numberOf s.config.pnum c), d := some (numberOf s.config.pnum d) } }) ∧
    (roundedQuarter s.config.pnum y1 [y2, y3, y4] = none ∨
      roundedQuarter s.config.pnum y4 [y3, -y2, -y1] = none ∨
      roundedQuarter s.config.pnum y4 [-y3, y2, -y1] = none ∨
      roundedQuarter s.config.pnum y4 [-y3, -y2, y1] = none →
      exec .btf s = .next { s with fault := 0x04 })

/-- R172, R175, R115: BTI writes to the four `YPP[i].y` the four signed sums of the coefficients in the printed
order, and nothing else; NONFINITE when a step overflows. -/
def Obligations.BtiTakesTheFourSignedSums : Prop :=
  ∀ (s : State) (n : Luma Number) (x : Luma Rat), Running s →
    s.coef.a = some n.a → s.coef.b = some n.b → s.coef.c = some n.c → s.coef.d = some n.d →
    n.map numberValue = x.map some →
    (∀ y1 y2 y3 y4,
      roundedSum s.config.pnum x.a [-x.b, -x.c, x.d] = some y1 →
      roundedSum s.config.pnum x.a [-x.b, x.c, -x.d] = some y2 →
      roundedSum s.config.pnum x.a [x.b, -x.c, -x.d] = some y3 →
      roundedSum s.config.pnum x.a [x.b, x.c, x.d] = some y4 →
      exec .bti s = .next { s with ypp :=
        ⟨{ s.ypp.topLeft with y := some (numberOf s.config.pnum y1) },
          { s.ypp.topRight with y := some (numberOf s.config.pnum y2) },
          { s.ypp.bottomLeft with y := some (numberOf s.config.pnum y3) },
          { s.ypp.bottomRight with y := some (numberOf s.config.pnum y4) }⟩ }) ∧
    (roundedSum s.config.pnum x.a [-x.b, -x.c, x.d] = none ∨
      roundedSum s.config.pnum x.a [-x.b, x.c, -x.d] = none ∨
      roundedSum s.config.pnum x.a [x.b, -x.c, -x.d] = none ∨
      roundedSum s.config.pnum x.a [x.b, x.c, x.d] = none →
      exec .bti s = .next { s with fault := 0x04 })

/-- R175, under EXACT: BTI after BTF is the identity on the four luma registers. -/
def Obligations.BtiUndoesBtfExactly : Prop :=
  ∀ (s : State) (y : Quad Rat), Running s → s.config.pnum = .exact →
    (s.ypp.map fun z => z.y) = y.map (fun q => some (.rational q)) →
    ∃ t u, exec .btf s = .next t ∧ exec .bti t = .next u ∧ u.ypp = s.ypp

/-- R173, R115: CAVG writes to `COEF.pb` and `COEF.pr` the means of the four samples, added in index order, and
nothing else; NONFINITE when a step overflows. -/
def Obligations.CavgTakesTheChromaMeans : Prop :=
  ∀ (s : State) (n k : Quad Number) (x z : Quad Rat), Running s →
    (s.ypp.map fun z => z.pb) = n.map some → (s.ypp.map fun z => z.pr) = k.map some →
    n.map numberValue = x.map some → k.map numberValue = z.map some →
    (∀ pb pr,
      roundedQuarter s.config.pnum x.topLeft [x.topRight, x.bottomLeft, x.bottomRight] = some pb →
      roundedQuarter s.config.pnum z.topLeft [z.topRight, z.bottomLeft, z.bottomRight] = some pr →
      exec .cavg s = .next { s with coef := { s.coef with
        pb := some (numberOf s.config.pnum pb), pr := some (numberOf s.config.pnum pr) } }) ∧
    (roundedQuarter s.config.pnum x.topLeft [x.topRight, x.bottomLeft, x.bottomRight] = none ∨
      roundedQuarter s.config.pnum z.topLeft [z.topRight, z.bottomLeft, z.bottomRight] = none →
      exec .cavg s = .next { s with fault := 0x04 })

/-- R174: CREP gives the pair `COEF.pb`, `COEF.pr` to all four pixels unchanged and touches nothing else;
NONFINITE when either is an infinity or a NaN. That a zero is copied pattern for pattern is the model's reading
(log 9). -/
def Obligations.CrepCopiesTheChromaPair : Prop :=
  ∀ (s : State) (pb pr : Number), Running s → s.coef.pb = some pb → s.coef.pr = some pr →
    (numberValue pb ≠ none → numberValue pr ≠ none →
      exec .crep s = .next { s with ypp :=
        ⟨⟨s.ypp.topLeft.y, some pb, some pr⟩, ⟨s.ypp.topRight.y, some pb, some pr⟩,
          ⟨s.ypp.bottomLeft.y, some pb, some pr⟩, ⟨s.ypp.bottomRight.y, some pb, some pr⟩⟩ }) ∧
    (numberValue pb = none ∨ numberValue pr = none → exec .crep s = .next { s with fault := 0x04 })

/-- R112 (a): a numeric source that holds an infinity or a NaN raises NONFINITE, every source being written. -/
def Obligations.NonfiniteSourceRaises : Prop :=
  ∀ (i : Instr) (s : State) (n : NumReg) (x : Number), Running s → ¬ Composite i →
    (∀ y ∈ reads i, ¬ Unwritten s y) → .num n ∈ reads i → s.number n = some x → numberValue x = none →
    exec i s = .next { s with fault := 0x04 }

/-! ### The Quantizer (44_quantizer.md) -/

/-- R191, R196: QDC writes to `Q.a` the code of a finite `COEF.a`, in `[0, 511]`, saturating, and nothing else, in
either instance. -/
def Obligations.QdcQuantisesTheAverage : Prop :=
  ∀ (s : State) (n : Number) (x : Rat), Running s → s.coef.a = some n → numberValue n = some x →
    ∃ k, IsDcCode s.config.pnum x k ∧
      exec .qdc s = .next { s with q := { s.q with a := some (BitVec.ofNat 64 k) } }

/-- R193, R197: QAC writes to `Q.b`, `Q.c`, `Q.d` the codes of three finite differences, in `[-15, 15]`, saturating,
stored sign-extended, and nothing else, in either instance. -/
def Obligations.QacQuantisesTheDifferences : Prop :=
  ∀ (s : State) (n k l : Number) (x y z : Rat), Running s →
    s.coef.b = some n → s.coef.c = some k → s.coef.d = some l →
    numberValue n = some x → numberValue k = some y → numberValue l = some z →
    ∃ b c d, IsAcCode s.config.pnum x b ∧ IsAcCode s.config.pnum y c ∧ IsAcCode s.config.pnum z d ∧
      exec .qac s = .next { s with q := { s.q with
        b := some (BitVec.ofInt 64 b), c := some (BitVec.ofInt 64 c), d := some (BitVec.ofInt 64 d) } }

/-- R198, R202: QCH writes to `Q.pb` and `Q.pr` the index of a nearest table entry, distances exact, the lowest one
under `P_TIE = LOWEST`, and nothing else (under `P_TIE = ANY` it draws two free bits, log 5). -/
def Obligations.QchFindsTheNearestEntries : Prop :=
  ∀ (s : State) (n k : Number) (x z : Rat), Running s → s.coef.pb = some n → s.coef.pr = some k →
    numberValue n = some x → numberValue k = some z →
    ∃ i j, IsIndexOf s.config x i ∧ IsIndexOf s.config z j ∧
      exec .qch s = .next { s with
        q := { s.q with pb := some (BitVec.ofNat 64 i), pr := some (BitVec.ofNat 64 j) }
        fresh := s.fresh + if s.config.tie = .any then 2 else 0 }

/-- R195, R199: DQDC writes to `COEF.a` the code over 511, rounded once, for a code in `[0, 511]`, and nothing
else. -/
def Obligations.DqdcDividesBy511 : Prop :=
  ∀ (s : State) (q : Word64), Running s → s.q.a = some q → q.toNat ≤ 511 →
    ∃ x, roundTo s.config.pnum ((q.toNat : Rat) / 511) = some x ∧
      exec .dqdc s = .next { s with coef := { s.coef with a := some (numberOf s.config.pnum x) } }

/-- R194, R200: DQAC writes to `COEF.b`, `COEF.c`, `COEF.d` the values of three codes in `[-16, 15]`, -16 among
them, and nothing else. -/
def Obligations.DqacScalesTheDifferences : Prop :=
  ∀ (s : State) (b c d : Word64), Running s → s.q.b = some b → s.q.c = some c → s.q.d = some d →
    -16 ≤ b.toInt → b.toInt ≤ 15 → -16 ≤ c.toInt → c.toInt ≤ 15 → -16 ≤ d.toInt → d.toInt ≤ 15 →
    ∃ x y z, IsAcValue s.config.pnum b.toInt x ∧ IsAcValue s.config.pnum c.toInt y ∧
      IsAcValue s.config.pnum d.toInt z ∧
      exec .dqac s = .next { s with coef := { s.coef with
        b := some (numberOf s.config.pnum x), c := some (numberOf s.config.pnum y),
        d := some (numberOf s.config.pnum z) } }

/-- R203: `decode_ac` for all 32 codes, by its BINARY32 pattern; under EXACT it is `q * 0.02`. -/
def Obligations.AcDequantiserTable : Prop :=
  (∀ x : Int × BitVec 32, x ∈
    ([(-16, 0xBEA3D70B), (-15, 0xBE99999A), (-14, 0xBE8F5C29), (-13, 0xBE851EB9), (-12, 0xBE75C290),
      (-11, 0xBE6147AF), (-10, 0xBE4CCCCE), (-9, 0xBE3851EC), (-8, 0xBE23D70B), (-7, 0xBE0F5C29),
      (-6, 0xBDF5C290), (-5, 0xBDCCCCCE), (-4, 0xBDA3D70B), (-3, 0xBD75C290), (-2, 0xBD23D70B),
      (-1, 0xBCA3D70B), (0, 0x00000000), (1, 0x3CA3D70B), (2, 0x3D23D70B), (3, 0x3D75C290),
      (4, 0x3DA3D70B), (5, 0x3DCCCCCE), (6, 0x3DF5C290), (7, 0x3E0F5C29), (8, 0x3E23D70B),
      (9, 0x3E3851EC), (10, 0x3E4CCCCE), (11, 0x3E6147AF), (12, 0x3E75C290), (13, 0x3E851EB9),
      (14, 0x3E8F5C29), (15, 0x3E99999A)] : List (Int × BitVec 32)) →
    ∃ y, decodeAc .binary32 x.1 = some y ∧ binary32Value x.2 = some y) ∧
  ∀ q : Int, decodeAc .exact q = some ((q : Rat) * (2 / 100))

/-- R201, R204: DQCH copies to `COEF.pb` and `COEF.pr` the table entries of two indices up to 15, and touches nothing
else. That a zero entry is copied pattern for pattern, its sign bit included, is the model's reading (log 9). -/
def Obligations.DqchLooksUpBothIndices : Prop :=
  ∀ (s : State) (pb pr : Word64), Running s → s.q.pb = some pb → s.q.pr = some pr →
    ∀ (hb : pb.toNat < 16) (hr : pr.toNat < 16),
      exec .dqch s = .next { s with coef := { s.coef with
        pb := some (s.config.chroma[pb.toNat]'hb), pr := some (s.config.chroma[pr.toNat]'hr) } }

/-- R199 to R201, R261: a dequantiser that reads a code outside its field raises OUT_OF_RANGE with `info` 0 and
writes no destination. -/
def Obligations.DequantisersRefuseMisfits : Prop :=
  ∀ s : State, Running s →
    (∀ q, s.q.a = some q → 511 < q.toNat → exec .dqdc s = .next { s with fault := 0x01 }) ∧
    (∀ b c d, s.q.b = some b → s.q.c = some c → s.q.d = some d →
      ¬ ((-16 ≤ b.toInt ∧ b.toInt ≤ 15) ∧ (-16 ≤ c.toInt ∧ c.toInt ≤ 15) ∧
        (-16 ≤ d.toInt ∧ d.toInt ≤ 15)) →
      exec .dqac s = .next { s with fault := 0x01 }) ∧
    (∀ pb pr, s.q.pb = some pb → s.q.pr = some pr → 15 < pb.toNat ∨ 15 < pr.toNat →
      exec .dqch s = .next { s with fault := 0x01 })

/-- R205: for every valid table, what `index_of` returns is nearest, and `index_of(value_of(j)) = j`: QCH after DQCH
leaves both indices as they were. -/
def Obligations.ChromaIndicesAreStable : Prop :=
  (∀ (c : Config) (free : Bool) (v : Rat), c.Valid →
    ∀ j, j ≤ 15 → |chromaAt c (indexOf c free v) - v| ≤ |chromaAt c j - v|) ∧
  (∀ (c : Config) (free : Bool) (j : Nat), c.Valid → j ≤ 15 → indexOf c free (chromaAt c j) = j) ∧
  ∀ (s : State) (pb pr : Word64), Running s → s.config.Valid → s.q.pb = some pb → s.q.pr = some pr →
    pb.toNat ≤ 15 → pr.toNat ≤ 15 →
    ∃ t u, exec .dqch s = .next t ∧ exec .qch t = .next u ∧ u.q = s.q

/-- R207, under EXACT: the error of a luma quantise and dequantise round trip. -/
def Obligations.LumaQuantiserErrorBounds : Prop :=
  (∀ a : Rat, 0 ≤ a → a ≤ 1 → ∃ k x, encodeDc .exact a = some k ∧ decodeDc .exact k = some x ∧
    |x - a| ≤ 1 / 1022) ∧
  (∀ x : Rat, |x| ≤ 3 / 10 → ∃ k z, encodeAc .exact x = some k ∧ decodeAc .exact k = some z ∧
    |z - x| ≤ 1 / 100) ∧
  ∀ x : Rat, 3 / 10 < |x| → ∃ k z, encodeAc .exact x = some k ∧ decodeAc .exact k = some z ∧
    |z - x| = |x| - 3 / 10

/-! ### The Word Packer/Unpacker (45_packer.md) -/

/-- R221, R71: PACK writes to `CW` the codeword of six fields that fit, to `W` the same zero-extended, and nothing
else. -/
def Obligations.PackBuildsTheCodeword : Prop :=
  ∀ (s : State) (q : Six Word64), Running s → s.q = q.map some → FieldsFit q →
    exec .pack s = .next { s with
      w := some (BitVec.ofNat 64
        (codeword q.a.toNat q.b.toInt q.c.toInt q.d.toInt q.pb.toNat q.pr.toNat))
      cw := some (BitVec.ofNat 32
        (codeword q.a.toNat q.b.toInt q.c.toInt q.d.toInt q.pb.toNat q.pr.toNat)) }

/-- R221, R261 (b): a field that does not fit makes PACK raise OUT_OF_RANGE with the ordinal of the first such field
in the order a, b, c, d, pb, pr, and write nothing else. -/
def Obligations.PackReportsTheFirstMisfit : Prop :=
  ∀ (s : State) (q : Six Word64), Running s → s.q = q.map some →
    let a := q.a.toNat ≤ 511
    let b := -16 ≤ q.b.toInt ∧ q.b.toInt ≤ 15
    let c := -16 ≤ q.c.toInt ∧ q.c.toInt ≤ 15
    let d := -16 ≤ q.d.toInt ∧ q.d.toInt ≤ 15
    let pb := q.pb.toNat ≤ 15
    let pr := q.pr.toNat ≤ 15
    (¬ a → exec .pack s = .next { s with fault := 0x11 }) ∧
    (a → ¬ b → exec .pack s = .next { s with fault := 0x21 }) ∧
    (a → b → ¬ c → exec .pack s = .next { s with fault := 0x31 }) ∧
    (a → b → c → ¬ d → exec .pack s = .next { s with fault := 0x41 }) ∧
    (a → b → c → d → ¬ pb → exec .pack s = .next { s with fault := 0x51 }) ∧
    (a → b → c → d → pb → ¬ pr → exec .pack s = .next { s with fault := 0x61 })

/-- R222, R71, R72: UNPACK takes the six fields out of any codeword, the signed ones sign-extended, and writes `W`
and `Q` and nothing else. -/
def Obligations.UnpackTakesTheFields : Prop :=
  ∀ (s : State) (cw : Word32), Running s → s.cw = some cw →
    exec .unpack s = .next { s with
      w := some (cw.setWidth 64)
      q := { a := some (BitVec.ofNat 64 (cw.toNat / 2 ^ 23))
             b := some (BitVec.ofInt 64 (signed5 (cw.toNat / 2 ^ 18 % 32)))
             c := some (BitVec.ofInt 64 (signed5 (cw.toNat / 2 ^ 13 % 32)))
             d := some (BitVec.ofInt 64 (signed5 (cw.toNat / 2 ^ 8 % 32)))
             pb := some (BitVec.ofNat 64 (cw.toNat / 2 ^ 4 % 16))
             pr := some (BitVec.ofNat 64 (cw.toNat % 16)) } }

/-- R223: UNPACK after a PACK that does not fault leaves all six `Q` registers as they were; PACK after UNPACK of any
codeword gives that codeword again and does not fault. -/
def Obligations.PackAndUnpackAreInverse : Prop :=
  (∀ s t : State, Running s → exec .pack s = .next t → Running t →
    ∃ u, exec .unpack t = .next u ∧ u.q = s.q) ∧
  ∀ (s : State) (cw : Word32), Running s → s.cw = some cw →
    ∃ t u, exec .unpack s = .next t ∧ exec .pack t = .next u ∧ Running u ∧ u.cw = some cw

/-- R224: PACK gives `W` and `CW` what thirteen host actions give `W`: the zero word written, then `V` written and a
set done for each field; and UNPACK gives each `Q` register what a get of its span of the zero-extended
codeword gives `R`. -/
def Obligations.PackIsASequenceOfBitFieldCommands : Prop :=
  (∀ (s : State) (q : Six Word64) (rest : List HostAction), Running s → s.q = q.map some → FieldsFit q →
    ∃ t u, exec .pack s = .next t ∧
      Sys2Proof.core.run 13 { s with pending :=
        [.write 0x01 (.word 0), .write 0x00 (.word q.a), .command 0x05091700,
          .write 0x00 (.word q.b), .command 0x06051200, .write 0x00 (.word q.c), .command 0x06050D00,
          .write 0x00 (.word q.d), .command 0x06050800, .write 0x00 (.word q.pb), .command 0x05040400,
          .write 0x00 (.word q.pr), .command 0x05040000] ++ rest } = .next u ∧
      u.w = t.w ∧ t.cw = u.w.map (fun w => w.setWidth 32) ∧ u = { s with
        v := some q.pr, w := t.w, pending := rest }) ∧
  ∀ (s t : State) (cw : Word32), Running s → s.cw = some cw → exec .unpack s = .next t →
    ∀ x ∈ ([(.getu 9 23, .a), (.gets 5 18, .b), (.gets 5 13, .c), (.gets 5 8, .d), (.getu 4 4, .pb),
      (.getu 4 0, .pr)] : List (Instr × Part)),
      exec x.1 { s with w := some (cw.setWidth 64) } =
        .next { s with w := some (cw.setWidth 64), r := sixPart t.q x.2 }

/-- R226: after QDC, QAC and QCH on finite coefficients PACK cannot fault. -/
def Obligations.QuantisedBlocksAlwaysPack : Prop :=
  ∀ s : State, Running s → (∀ k, ∃ n, s.number (.coef k) = some n ∧ numberValue n ≠ none) →
    ∃ t, andThen (andThen (andThen (exec .qdc s) (exec .qac)) (exec .qch)) (exec .pack) = .next t ∧
      Running t ∧ ∃ cw, t.cw = some cw ∧ t.w = some (cw.setWidth 64)

/-! ### Whole blocks (46_block_ops.md) -/

/-- R244, R241, R242: the state after ENCBLK is the state after the host issues its ten commands one by one, and the
same for DECBLK, in the faulting case too, whatever the state. -/
def Obligations.CompositesAreTheirSequences : Prop :=
  (∀ (s : State) (rest : List HostAction),
    ∃ t, Sys2Proof.core.run 10 { s with pending :=
        [.command 0x08000000, .command 0x08000001, .command 0x08000002, .command 0x08000003,
          .command 0x0A000000, .command 0x0C000000, .command 0x10000000, .command 0x11000000,
          .command 0x12000000, .command 0x18000000] ++ rest } = .next t ∧
      Sys2Proof.core.run 1 { s with pending := .command 0x1C000000 :: rest } = .next t) ∧
  ∀ (s : State) (rest : List HostAction),
    ∃ t, Sys2Proof.core.run 10 { s with pending :=
        [.command 0x19000000, .command 0x14000000, .command 0x15000000, .command 0x16000000,
          .command 0x0B000000, .command 0x0D000000, .command 0x09000000, .command 0x09000001,
          .command 0x09000002, .command 0x09000003] ++ rest } = .next t ∧
      Sys2Proof.core.run 1 { s with pending := .command 0x1D000000 :: rest } = .next t

/-- R241, R264: ENCBLK on a block whose twelve values are in `[0, 1]` completes without a fault in either instance,
leaves every register it uses written, and never puts the code -16 in a luma difference (R72). -/
def Obligations.EncblkCompletesInContract : Prop :=
  ∀ (s : State), Running s →
    (∀ p k, ∃ n x, s.number (.rgb p k) = some n ∧ numberValue n = some x ∧ 0 ≤ x ∧ x ≤ 1) →
    ∃ (t : State) (q : Six Word64) (cw : Word32), exec .encblk s = .next t ∧ t.fault = s.fault ∧
      t.rgb = s.rgb ∧ t.q = q.map some ∧ t.cw = some cw ∧ t.w = some (cw.setWidth 64) ∧
      q.a.toNat ≤ 511 ∧ (-15 ≤ q.b.toInt ∧ q.b.toInt ≤ 15) ∧ (-15 ≤ q.c.toInt ∧ q.c.toInt ≤ 15) ∧
      (-15 ≤ q.d.toInt ∧ q.d.toInt ≤ 15) ∧ q.pb.toNat ≤ 15 ∧ q.pr.toNat ≤ 15 ∧
      cw = BitVec.ofNat 32
        (codeword q.a.toNat q.b.toInt q.c.toInt q.d.toInt q.pb.toNat q.pr.toNat) ∧
      ∀ x ∈ writes .encblk, ¬ Unwritten t x

/-- R242: DECBLK completes without a fault on every codeword: under EXACT for every valid table, under BINARY32 for
every valid table inside `[-1/2, 1/2]`; it leaves every register it uses written and keeps `CW`. -/
def Obligations.DecblkIsTotalOnCodewords : Prop :=
  ∀ (s : State) (cw : Word32), Running s → s.config.Valid → s.cw = some cw →
    (s.config.pnum = .binary32 → ∀ x ∈ chromaValues s.config, |x| ≤ 1 / 2) →
    ∃ t, exec .decblk s = .next t ∧ t.fault = s.fault ∧ t.cw = s.cw ∧
      ∀ x ∈ writes .decblk, ¬ Unwritten t x

/-! ### The whole machine -/

/-- R33, the column "writes", and R266: a command changes no data register but its destinations, and never the
configuration or the host's side; it changes `FAULT` only by halting a running core. -/
def Obligations.CommandsWriteOnlyTheirDestinations : Prop :=
  ∀ (i : Instr) (s t : State), exec i s = .next t →
    (∀ x, x ∉ writes i → Agree s t x) ∧ t.config = s.config ∧ t.pending = s.pending ∧ t.answer = s.answer ∧
      (t.fault = s.fault ∨ (Running s ∧ t.halted = true))

/-- R74 (3), R266, R268: a single-stage command that faults writes nothing but `FAULT`. -/
def Obligations.FaultingCommandWritesOnlyFault : Prop :=
  ∀ (i : Instr) (s t : State), ¬ Composite i → Running s → exec i s = .next t → t.halted = true →
    t = { s with fault := t.fault }

/-- R33, the column "reads", R42 and R243: a command's result is a function of the registers it reads and of the
configuration. Two running cores that agree on those raise the same fault, and where they raise none they
agree on every destination; for ENCBLK and DECBLK too. Under `P_TIE = ANY` the free bits are given equal. -/
def Obligations.ResultsDependOnlyOnSources : Prop :=
  ∀ (i : Instr) (s s' t t' : State), Running s → s.fault = s'.fault → s.config = s'.config →
    (s.config.tie = .lowest ∨ s.fresh = s'.fresh) → (∀ x ∈ reads i, Agree s s' x) →
    exec i s = .next t → exec i s' = .next t' →
    t.fault = t'.fault ∧ (Running t → ∀ x ∈ writes i, Agree t t' x)

/-- R265, R270: a single-stage command with an unwritten source raises UNWRITTEN, before any other fault but
ILLEGAL_CMD, and writes nothing else. -/
def Obligations.UnwrittenSourceRaises : Prop :=
  ∀ (i : Instr) (s : State) (x : Reg), i.wellFormed = true → ¬ Composite i → Running s → x ∈ reads i →
    Unwritten s x → exec i s = .next { s with fault := 0x05 }

/-- R244, R265: a composite stops at the first constituent that raises a fault, whatever the constituent and the
fault: it ends in the state the constituents before it left, but for `FAULT`, which holds that constituent's
code and info. So DECBLK with `CW` unwritten raises UNWRITTEN and writes nothing else; and ENCBLK, the pixels
before pixel `p` in contract, raises UNWRITTEN if an `RGB` register of `p` is unwritten, and NONFINITE if all
three are written and one is infinite or NaN, in a state that differs from the first in nothing but `FAULT` and
the `YPP` registers of the pixels before `p`, which are written. -/
def Obligations.CompositeStopsAtTheFirstFault : Prop :=
  ∀ s : State, Running s →
    (∀ i k c t u, (constituents i)[k]? = some c → runCommands ((constituents i).take k) s = .next t → Running t →
      exec c t = .next u → u.halted = true → exec i s = .next u ∧ u = { t with fault := u.fault }) ∧
    (s.cw = none → exec .decblk s = .next { s with fault := 0x05 }) ∧
    ∀ p : Pixel,
      (∀ p' : Pixel, p'.index < p.index → ∀ k, ∃ n x, s.number (.rgb p' k) = some n ∧
        numberValue n = some x ∧ 0 ≤ x ∧ x ≤ 1) →
      ∃ t, runCommands (encblkCommands.take p.index) s = .next t ∧ Running t ∧ t = { s with ypp := t.ypp } ∧
        (∀ p' : Pixel, p'.index < p.index → ∀ x ∈ yppRegs p', ¬ Unwritten t x) ∧
        (∀ p' : Pixel, p.index ≤ p'.index → ∀ x ∈ yppRegs p', Agree s t x) ∧
        (∀ k, s.number (.rgb p k) = none → exec .encblk s = .next { t with fault := 0x05 }) ∧
        ((∀ k, s.number (.rgb p k) ≠ none) → ∀ k n, s.number (.rgb p k) = some n → numberValue n = none →
          exec .encblk s = .next { t with fault := 0x04 })

/-- Every step keeps the invariant: `FAULT` legal (R27, R260), the configuration a valid one (R10, R29, R294), every
number of the instance's kind (R21); and no step changes the configuration, `CHROMA` among it (R41). -/
def Obligations.StepKeepsTheInvariant : Prop :=
  ∀ s t : State, step s = .next t → t.config = s.config ∧ (Invariant s → Invariant t)

/-- The state after reset meets the invariant. That its table is the default one is the model's choice (log 4). -/
def Obligations.ResetMeetsTheInvariant : Prop := Invariant State.reset

/-! ### The output contract (20_memory.md, 46_block_ops.md) -/

/-- R53: the two conversions between a codeword and its four bytes, most significant first, are inverse to each
other on all words and all byte quadruples. -/
def Obligations.WireBytesAreInverse : Prop :=
  (∀ cw : Word32, wireBytes cw =
    ⟨BitVec.ofNat 8 (cw.toNat / 2 ^ 24), BitVec.ofNat 8 (cw.toNat / 2 ^ 16),
      BitVec.ofNat 8 (cw.toNat / 2 ^ 8), BitVec.ofNat 8 cw.toNat⟩) ∧
  (∀ b : Quad Byte, (cwOfBytes b).toNat =
    b.topLeft.toNat * 2 ^ 24 + b.topRight.toNat * 2 ^ 16 + b.bottomLeft.toNat * 2 ^ 8 +
      b.bottomRight.toNat) ∧
  (∀ cw : Word32, cwOfBytes (wireBytes cw) = cw) ∧
  (∀ b : Quad Byte, wireBytes (cwOfBytes b) = b) ∧
  ∀ cws : List Word32, streamCodewords (streamBytes cws) = some cws

/-- R246, R56: block numbers below the block count and pixels name each position of a trimmed image exactly once, and
for trimmed dimensions the writer's and the reader's counts agree. -/
def Obligations.BlocksCoverTheTrimmedImage : Prop :=
  ∀ width height : Nat,
    (∀ col row, col < trimmed width → row < trimmed height →
      ∃ n p, n < blockCount (trimmed width) (trimmed height) ∧
        pixelPosition (blockPosition (trimmed width) n) p = (col, row) ∧
        ∀ n' p', n' < blockCount (trimmed width) (trimmed height) →
          pixelPosition (blockPosition (trimmed width) n') p' = (col, row) → n' = n ∧ p' = p) ∧
    (∀ n p, n < blockCount (trimmed width) (trimmed height) →
      (pixelPosition (blockPosition (trimmed width) n) p).1 < trimmed width ∧
        (pixelPosition (blockPosition (trimmed width) n) p).2 < trimmed height) ∧
    readerCount (trimmed width) (trimmed height) = blockCount (trimmed width) (trimmed height) ∧
    trimmed width % 2 = 0 ∧ trimmed width ≤ width ∧ width < trimmed width + 2
end

