-- ==== Sys2Proof/Laws/BitField.lean ====
section
/-! SUPPORT. The bit-field functions bit by bit (R133 to R136), the fits tests as inequalities (R131, R132), and
the low bits of a two's-complement value (R101). -/

namespace Sys2Proof.Machine

/-- Bit `i` of an unsigned field is bit `lsb + i` of the word, and 0 above the field (R133). -/
theorem getUnsigned_testBit (word : Word64) (width lsb i : Nat) :
    (getUnsigned word width lsb).testBit i = (decide (i < width) && word.getLsbD (lsb + i)) := by
  simp [getUnsigned, Nat.testBit_mod_two_pow, Nat.testBit_shiftRight, BitVec.getLsbD]

/-- An unsigned field fits its width (R133). -/
theorem getUnsigned_lt (word : Word64) (width lsb : Nat) : getUnsigned word width lsb < 2 ^ width :=
  Nat.mod_lt _ (by positivity)

/-- Two words that agree on a span have the same unsigned field there. -/
theorem getUnsigned_congr {word word' : Word64} {width lsb : Nat}
    (h : ∀ i, i < width → word.getLsbD (lsb + i) = word'.getLsbD (lsb + i)) :
    getUnsigned word width lsb = getUnsigned word' width lsb := by
  refine Nat.eq_of_testBit_eq fun i => ?_
  rw [getUnsigned_testBit, getUnsigned_testBit]
  by_cases hi : i < width
  · rw [h i hi]
  · simp [hi]

/-- A signed field is its unsigned field read as two's complement of the field's width (R134). -/
theorem getSigned_eq_toInt (word : Word64) {width : Nat} (lsb : Nat) (h : 1 ≤ width) :
    getSigned word width lsb = (BitVec.ofNat width (getUnsigned word width lsb)).toInt := by
  have hp : (2 : Int) ^ width = 2 * 2 ^ (width - 1) := by rw [← pow_succ']; congr 1; omega
  have hn : (2 : Nat) ^ width = 2 * 2 ^ (width - 1) := by rw [← pow_succ']; congr 1; omega
  have hlt := getUnsigned_lt word width lsb
  unfold getSigned
  rw [BitVec.toInt_eq_toNat_cond, BitVec.toNat_ofNat, Nat.mod_eq_of_lt hlt]
  push_cast
  split_ifs <;> omega

/-- Bit `i` of a word after a set: the value's inside the span, the old word's outside it (R135). -/
theorem setUnsigned_getLsbD (word : Word64) {width value : Nat} (lsb : Nat) {i : Nat} (hi : i < 64)
    (hv : value < 2 ^ width) :
    (setUnsigned word width lsb value).getLsbD i =
      if lsb ≤ i ∧ i < lsb + width then value.testBit (i - lsb) else word.getLsbD i := by
  simp only [setUnsigned, BitVec.getLsbD_or, BitVec.getLsbD_and, BitVec.getLsbD_not, BitVec.getLsbD_ofNat, hi,
    decide_true, Bool.true_and, Nat.testBit_shiftLeft, Nat.testBit_two_pow_sub_one]
  by_cases h1 : lsb ≤ i
  · by_cases h2 : i < lsb + width
    · have h3 : i - lsb < width := by omega
      simp [h1, h2, h3]
    · have h3 : ¬ i - lsb < width := by omega
      have h4 : value.testBit (i - lsb) = false :=
        Nat.testBit_lt_two_pow (lt_of_lt_of_le hv (Nat.pow_le_pow_right (by omega) (by omega)))
      simp [h1, h2, h3, h4]
  · simp [h1]

/-- An unsigned value fits exactly when it is below the power of two (R131). -/
theorem fitsUnsigned_natCast (n width : Nat) : fitsUnsigned (n : Int) width = decide (n < 2 ^ width) := by
  have h : (2 : Int) ^ width = ((2 ^ width : Nat) : Int) := by push_cast; rfl
  have h0 : 0 < 2 ^ width := by positivity
  unfold fitsUnsigned
  rw [h, decide_eq_decide]
  omega

/-- A signed value fits exactly when it lies in the two's-complement range (R132). -/
theorem fitsSigned_eq_true {n : Int} {width : Nat} :
    fitsSigned n width = true ↔ -2 ^ (width - 1) ≤ n ∧ n < 2 ^ (width - 1) := by
  unfold fitsSigned
  rw [decide_eq_true_iff, Int.le_sub_one_iff]

/-- The `width`-bit pattern of a signed value is a value that fits unsigned (R101, R136). -/
theorem emod_toNat_lt (value : Int) (width : Nat) : (value % 2 ^ width).toNat < 2 ^ width := by
  have hpos : (0 : Int) < 2 ^ width := by positivity
  have h0 := Int.emod_nonneg value hpos.ne'
  have h1 := Int.emod_lt_of_pos value hpos
  zify
  rw [Int.toNat_of_nonneg h0]
  exact h1

end Sys2Proof.Machine
end

