-- ==== Sys2Proof/Laws/Decode.lean ====
section
/-! SUPPORT. The four byte-wide fields of a command word and the word of four fields are inverse to each
other (R73). -/

namespace Sys2Proof

/-- The fields of a word built from four bytes are those bytes (R73). -/
theorem fieldsOf_wordOf (op width lsb idx : Byte) : fieldsOf (wordOf op width lsb idx) = ⟨op, width, lsb, idx⟩ := by
  unfold fieldsOf wordOf
  simp only [Fields.mk.injEq]
  refine ⟨?_, ?_, ?_, ?_⟩ <;> ext i hi <;> simp only [BitVec.getElem_extractLsb', BitVec.getLsbD_append]
  all_goals split_ifs <;> first | omega | (rw [BitVec.getLsbD_eq_getElem (by omega)]; congr 1; omega)

/-- A word is the word of its fields (R73). -/
theorem wordOf_fieldsOf (w : Word32) :
    wordOf (fieldsOf w).op (fieldsOf w).width (fieldsOf w).lsb (fieldsOf w).idx = w := by
  unfold fieldsOf wordOf
  ext i hi
  rw [← BitVec.getLsbD_eq_getElem, ← BitVec.getLsbD_eq_getElem]
  simp only [BitVec.getLsbD_append, BitVec.getLsbD_extractLsb']
  split_ifs <;> rw [decide_eq_true (by omega), Bool.true_and] <;> congr 1 <;> omega

/-- Two words with the same four fields are the same word (R73). -/
theorem eq_of_fieldsOf_eq {w w' : Word32} (h : fieldsOf w = fieldsOf w') : w = w' := by
  rw [← wordOf_fieldsOf w, ← wordOf_fieldsOf w', h]

end Sys2Proof
end

