-- ==== Sys2Proof/Laws/State.lean ====
section
/-! SUPPORT. One lemma per field and named update of the state, each true by `rfl`, so that no proof unfolds a
record update; and what the accessors see of a write. -/

namespace Sys2Proof.Machine

section raise
variable (s : State) (x : Raise)
@[simp] theorem State.raise_rgb : (s.raise x).rgb = s.rgb := rfl
@[simp] theorem State.raise_ypp : (s.raise x).ypp = s.ypp := rfl
@[simp] theorem State.raise_coef : (s.raise x).coef = s.coef := rfl
@[simp] theorem State.raise_q : (s.raise x).q = s.q := rfl
@[simp] theorem State.raise_v : (s.raise x).v = s.v := rfl
@[simp] theorem State.raise_w : (s.raise x).w = s.w := rfl
@[simp] theorem State.raise_r : (s.raise x).r = s.r := rfl
@[simp] theorem State.raise_cw : (s.raise x).cw = s.cw := rfl
@[simp] theorem State.raise_t : (s.raise x).t = s.t := rfl
@[simp] theorem State.raise_fault : (s.raise x).fault = x.info ++ x.code.number := rfl
@[simp] theorem State.raise_config : (s.raise x).config = s.config := rfl
@[simp] theorem State.raise_pending : (s.raise x).pending = s.pending := rfl
@[simp] theorem State.raise_answer : (s.raise x).answer = s.answer := rfl
@[simp] theorem State.raise_fresh : (s.raise x).fresh = s.fresh := rfl
end raise

section hostReset
variable (s : State)
@[simp] theorem State.hostReset_rgb : (s.hostReset).rgb = State.reset.rgb := rfl
@[simp] theorem State.hostReset_ypp : (s.hostReset).ypp = State.reset.ypp := rfl
@[simp] theorem State.hostReset_coef : (s.hostReset).coef = State.reset.coef := rfl
@[simp] theorem State.hostReset_q : (s.hostReset).q = State.reset.q := rfl
@[simp] theorem State.hostReset_v : (s.hostReset).v = none := rfl
@[simp] theorem State.hostReset_w : (s.hostReset).w = none := rfl
@[simp] theorem State.hostReset_r : (s.hostReset).r = none := rfl
@[simp] theorem State.hostReset_cw : (s.hostReset).cw = none := rfl
@[simp] theorem State.hostReset_t : (s.hostReset).t = none := rfl
@[simp] theorem State.hostReset_fault : (s.hostReset).fault = 0 := rfl
@[simp] theorem State.hostReset_config : (s.hostReset).config = s.config := rfl
@[simp] theorem State.hostReset_pending : (s.hostReset).pending = s.pending := rfl
@[simp] theorem State.hostReset_answer : (s.hostReset).answer = s.answer := rfl
@[simp] theorem State.hostReset_fresh : (s.hostReset).fresh = s.fresh := rfl
end hostReset

section setQ
variable (s : State) (k : Part) (x : Word64)
@[simp] theorem State.setQ_rgb : (s.setQ k x).rgb = s.rgb := rfl
@[simp] theorem State.setQ_ypp : (s.setQ k x).ypp = s.ypp := rfl
@[simp] theorem State.setQ_coef : (s.setQ k x).coef = s.coef := rfl
@[simp] theorem State.setQ_q : (s.setQ k x).q = setSixPart s.q k (some x) := rfl
@[simp] theorem State.setQ_v : (s.setQ k x).v = s.v := rfl
@[simp] theorem State.setQ_w : (s.setQ k x).w = s.w := rfl
@[simp] theorem State.setQ_r : (s.setQ k x).r = s.r := rfl
@[simp] theorem State.setQ_cw : (s.setQ k x).cw = s.cw := rfl
@[simp] theorem State.setQ_t : (s.setQ k x).t = s.t := rfl
@[simp] theorem State.setQ_fault : (s.setQ k x).fault = s.fault := rfl
@[simp] theorem State.setQ_config : (s.setQ k x).config = s.config := rfl
@[simp] theorem State.setQ_pending : (s.setQ k x).pending = s.pending := rfl
@[simp] theorem State.setQ_answer : (s.setQ k x).answer = s.answer := rfl
@[simp] theorem State.setQ_fresh : (s.setQ k x).fresh = s.fresh := rfl
end setQ

section setV
variable (s : State) (x : Word64)
@[simp] theorem State.setV_rgb : (s.setV x).rgb = s.rgb := rfl
@[simp] theorem State.setV_ypp : (s.setV x).ypp = s.ypp := rfl
@[simp] theorem State.setV_coef : (s.setV x).coef = s.coef := rfl
@[simp] theorem State.setV_q : (s.setV x).q = s.q := rfl
@[simp] theorem State.setV_v : (s.setV x).v = some x := rfl
@[simp] theorem State.setV_w : (s.setV x).w = s.w := rfl
@[simp] theorem State.setV_r : (s.setV x).r = s.r := rfl
@[simp] theorem State.setV_cw : (s.setV x).cw = s.cw := rfl
@[simp] theorem State.setV_t : (s.setV x).t = s.t := rfl
@[simp] theorem State.setV_fault : (s.setV x).fault = s.fault := rfl
@[simp] theorem State.setV_config : (s.setV x).config = s.config := rfl
@[simp] theorem State.setV_pending : (s.setV x).pending = s.pending := rfl
@[simp] theorem State.setV_answer : (s.setV x).answer = s.answer := rfl
@[simp] theorem State.setV_fresh : (s.setV x).fresh = s.fresh := rfl
end setV

section setW
variable (s : State) (x : Word64)
@[simp] theorem State.setW_rgb : (s.setW x).rgb = s.rgb := rfl
@[simp] theorem State.setW_ypp : (s.setW x).ypp = s.ypp := rfl
@[simp] theorem State.setW_coef : (s.setW x).coef = s.coef := rfl
@[simp] theorem State.setW_q : (s.setW x).q = s.q := rfl
@[simp] theorem State.setW_v : (s.setW x).v = s.v := rfl
@[simp] theorem State.setW_w : (s.setW x).w = some x := rfl
@[simp] theorem State.setW_r : (s.setW x).r = s.r := rfl
@[simp] theorem State.setW_cw : (s.setW x).cw = s.cw := rfl
@[simp] theorem State.setW_t : (s.setW x).t = s.t := rfl
@[simp] theorem State.setW_fault : (s.setW x).fault = s.fault := rfl
@[simp] theorem State.setW_config : (s.setW x).config = s.config := rfl
@[simp] theorem State.setW_pending : (s.setW x).pending = s.pending := rfl
@[simp] theorem State.setW_answer : (s.setW x).answer = s.answer := rfl
@[simp] theorem State.setW_fresh : (s.setW x).fresh = s.fresh := rfl
end setW

section setR
variable (s : State) (x : Word64)
@[simp] theorem State.setR_rgb : (s.setR x).rgb = s.rgb := rfl
@[simp] theorem State.setR_ypp : (s.setR x).ypp = s.ypp := rfl
@[simp] theorem State.setR_coef : (s.setR x).coef = s.coef := rfl
@[simp] theorem State.setR_q : (s.setR x).q = s.q := rfl
@[simp] theorem State.setR_v : (s.setR x).v = s.v := rfl
@[simp] theorem State.setR_w : (s.setR x).w = s.w := rfl
@[simp] theorem State.setR_r : (s.setR x).r = some x := rfl
@[simp] theorem State.setR_cw : (s.setR x).cw = s.cw := rfl
@[simp] theorem State.setR_t : (s.setR x).t = s.t := rfl
@[simp] theorem State.setR_fault : (s.setR x).fault = s.fault := rfl
@[simp] theorem State.setR_config : (s.setR x).config = s.config := rfl
@[simp] theorem State.setR_pending : (s.setR x).pending = s.pending := rfl
@[simp] theorem State.setR_answer : (s.setR x).answer = s.answer := rfl
@[simp] theorem State.setR_fresh : (s.setR x).fresh = s.fresh := rfl
end setR

section setCw
variable (s : State) (x : Word32)
@[simp] theorem State.setCw_rgb : (s.setCw x).rgb = s.rgb := rfl
@[simp] theorem State.setCw_ypp : (s.setCw x).ypp = s.ypp := rfl
@[simp] theorem State.setCw_coef : (s.setCw x).coef = s.coef := rfl
@[simp] theorem State.setCw_q : (s.setCw x).q = s.q := rfl
@[simp] theorem State.setCw_v : (s.setCw x).v = s.v := rfl
@[simp] theorem State.setCw_w : (s.setCw x).w = s.w := rfl
@[simp] theorem State.setCw_r : (s.setCw x).r = s.r := rfl
@[simp] theorem State.setCw_cw : (s.setCw x).cw = some x := rfl
@[simp] theorem State.setCw_t : (s.setCw x).t = s.t := rfl
@[simp] theorem State.setCw_fault : (s.setCw x).fault = s.fault := rfl
@[simp] theorem State.setCw_config : (s.setCw x).config = s.config := rfl
@[simp] theorem State.setCw_pending : (s.setCw x).pending = s.pending := rfl
@[simp] theorem State.setCw_answer : (s.setCw x).answer = s.answer := rfl
@[simp] theorem State.setCw_fresh : (s.setCw x).fresh = s.fresh := rfl
end setCw

section setT
variable (s : State) (x : Bool)
@[simp] theorem State.setT_rgb : (s.setT x).rgb = s.rgb := rfl
@[simp] theorem State.setT_ypp : (s.setT x).ypp = s.ypp := rfl
@[simp] theorem State.setT_coef : (s.setT x).coef = s.coef := rfl
@[simp] theorem State.setT_q : (s.setT x).q = s.q := rfl
@[simp] theorem State.setT_v : (s.setT x).v = s.v := rfl
@[simp] theorem State.setT_w : (s.setT x).w = s.w := rfl
@[simp] theorem State.setT_r : (s.setT x).r = s.r := rfl
@[simp] theorem State.setT_cw : (s.setT x).cw = s.cw := rfl
@[simp] theorem State.setT_t : (s.setT x).t = some x := rfl
@[simp] theorem State.setT_fault : (s.setT x).fault = s.fault := rfl
@[simp] theorem State.setT_config : (s.setT x).config = s.config := rfl
@[simp] theorem State.setT_pending : (s.setT x).pending = s.pending := rfl
@[simp] theorem State.setT_answer : (s.setT x).answer = s.answer := rfl
@[simp] theorem State.setT_fresh : (s.setT x).fresh = s.fresh := rfl
end setT

section setRgb
variable (s : State) (p : Pixel) (x : Rgb Number)
@[simp] theorem State.setRgb_rgb : (s.setRgb p x).rgb = s.rgb.set p (x.map some) := rfl
@[simp] theorem State.setRgb_ypp : (s.setRgb p x).ypp = s.ypp := rfl
@[simp] theorem State.setRgb_coef : (s.setRgb p x).coef = s.coef := rfl
@[simp] theorem State.setRgb_q : (s.setRgb p x).q = s.q := rfl
@[simp] theorem State.setRgb_v : (s.setRgb p x).v = s.v := rfl
@[simp] theorem State.setRgb_w : (s.setRgb p x).w = s.w := rfl
@[simp] theorem State.setRgb_r : (s.setRgb p x).r = s.r := rfl
@[simp] theorem State.setRgb_cw : (s.setRgb p x).cw = s.cw := rfl
@[simp] theorem State.setRgb_t : (s.setRgb p x).t = s.t := rfl
@[simp] theorem State.setRgb_fault : (s.setRgb p x).fault = s.fault := rfl
@[simp] theorem State.setRgb_config : (s.setRgb p x).config = s.config := rfl
@[simp] theorem State.setRgb_pending : (s.setRgb p x).pending = s.pending := rfl
@[simp] theorem State.setRgb_answer : (s.setRgb p x).answer = s.answer := rfl
@[simp] theorem State.setRgb_fresh : (s.setRgb p x).fresh = s.fresh := rfl
end setRgb

section setYpp
variable (s : State) (p : Pixel) (x : Ypp Number)
@[simp] theorem State.setYpp_rgb : (s.setYpp p x).rgb = s.rgb := rfl
@[simp] theorem State.setYpp_ypp : (s.setYpp p x).ypp = s.ypp.set p (x.map some) := rfl
@[simp] theorem State.setYpp_coef : (s.setYpp p x).coef = s.coef := rfl
@[simp] theorem State.setYpp_q : (s.setYpp p x).q = s.q := rfl
@[simp] theorem State.setYpp_v : (s.setYpp p x).v = s.v := rfl
@[simp] theorem State.setYpp_w : (s.setYpp p x).w = s.w := rfl
@[simp] theorem State.setYpp_r : (s.setYpp p x).r = s.r := rfl
@[simp] theorem State.setYpp_cw : (s.setYpp p x).cw = s.cw := rfl
@[simp] theorem State.setYpp_t : (s.setYpp p x).t = s.t := rfl
@[simp] theorem State.setYpp_fault : (s.setYpp p x).fault = s.fault := rfl
@[simp] theorem State.setYpp_config : (s.setYpp p x).config = s.config := rfl
@[simp] theorem State.setYpp_pending : (s.setYpp p x).pending = s.pending := rfl
@[simp] theorem State.setYpp_answer : (s.setYpp p x).answer = s.answer := rfl
@[simp] theorem State.setYpp_fresh : (s.setYpp p x).fresh = s.fresh := rfl
end setYpp

section setSamplesY
variable (s : State) (y : Quad Number)
@[simp] theorem State.setSamplesY_rgb : (s.setSamplesY y).rgb = s.rgb := rfl
@[simp] theorem State.setSamplesY_coef : (s.setSamplesY y).coef = s.coef := rfl
@[simp] theorem State.setSamplesY_q : (s.setSamplesY y).q = s.q := rfl
@[simp] theorem State.setSamplesY_v : (s.setSamplesY y).v = s.v := rfl
@[simp] theorem State.setSamplesY_w : (s.setSamplesY y).w = s.w := rfl
@[simp] theorem State.setSamplesY_r : (s.setSamplesY y).r = s.r := rfl
@[simp] theorem State.setSamplesY_cw : (s.setSamplesY y).cw = s.cw := rfl
@[simp] theorem State.setSamplesY_t : (s.setSamplesY y).t = s.t := rfl
@[simp] theorem State.setSamplesY_fault : (s.setSamplesY y).fault = s.fault := rfl
@[simp] theorem State.setSamplesY_config : (s.setSamplesY y).config = s.config := rfl
@[simp] theorem State.setSamplesY_pending : (s.setSamplesY y).pending = s.pending := rfl
@[simp] theorem State.setSamplesY_answer : (s.setSamplesY y).answer = s.answer := rfl
@[simp] theorem State.setSamplesY_fresh : (s.setSamplesY y).fresh = s.fresh := rfl
@[simp] theorem State.setSamplesY_ypp_topLeft : (s.setSamplesY y).ypp.topLeft = { s.ypp.topLeft with y := some y.topLeft } := rfl
@[simp] theorem State.setSamplesY_ypp_topRight : (s.setSamplesY y).ypp.topRight = { s.ypp.topRight with y := some y.topRight } := rfl
@[simp] theorem State.setSamplesY_ypp_bottomLeft : (s.setSamplesY y).ypp.bottomLeft = { s.ypp.bottomLeft with y := some y.bottomLeft } := rfl
@[simp] theorem State.setSamplesY_ypp_bottomRight : (s.setSamplesY y).ypp.bottomRight = { s.ypp.bottomRight with y := some y.bottomRight } := rfl
end setSamplesY

section setSamplesChroma
variable (s : State) (x : Chroma Number)
@[simp] theorem State.setSamplesChroma_rgb : (s.setSamplesChroma x).rgb = s.rgb := rfl
@[simp] theorem State.setSamplesChroma_ypp : (s.setSamplesChroma x).ypp = s.ypp.map fun z => { z with pb := some x.pb, pr := some x.pr } := rfl
@[simp] theorem State.setSamplesChroma_coef : (s.setSamplesChroma x).coef = s.coef := rfl
@[simp] theorem State.setSamplesChroma_q : (s.setSamplesChroma x).q = s.q := rfl
@[simp] theorem State.setSamplesChroma_v : (s.setSamplesChroma x).v = s.v := rfl
@[simp] theorem State.setSamplesChroma_w : (s.setSamplesChroma x).w = s.w := rfl
@[simp] theorem State.setSamplesChroma_r : (s.setSamplesChroma x).r = s.r := rfl
@[simp] theorem State.setSamplesChroma_cw : (s.setSamplesChroma x).cw = s.cw := rfl
@[simp] theorem State.setSamplesChroma_t : (s.setSamplesChroma x).t = s.t := rfl
@[simp] theorem State.setSamplesChroma_fault : (s.setSamplesChroma x).fault = s.fault := rfl
@[simp] theorem State.setSamplesChroma_config : (s.setSamplesChroma x).config = s.config := rfl
@[simp] theorem State.setSamplesChroma_pending : (s.setSamplesChroma x).pending = s.pending := rfl
@[simp] theorem State.setSamplesChroma_answer : (s.setSamplesChroma x).answer = s.answer := rfl
@[simp] theorem State.setSamplesChroma_fresh : (s.setSamplesChroma x).fresh = s.fresh := rfl
end setSamplesChroma

section setCoefA
variable (s : State) (x : Number)
@[simp] theorem State.setCoefA_rgb : (s.setCoefA x).rgb = s.rgb := rfl
@[simp] theorem State.setCoefA_ypp : (s.setCoefA x).ypp = s.ypp := rfl
@[simp] theorem State.setCoefA_coef : (s.setCoefA x).coef = { s.coef with a := some x } := rfl
@[simp] theorem State.setCoefA_q : (s.setCoefA x).q = s.q := rfl
@[simp] theorem State.setCoefA_v : (s.setCoefA x).v = s.v := rfl
@[simp] theorem State.setCoefA_w : (s.setCoefA x).w = s.w := rfl
@[simp] theorem State.setCoefA_r : (s.setCoefA x).r = s.r := rfl
@[simp] theorem State.setCoefA_cw : (s.setCoefA x).cw = s.cw := rfl
@[simp] theorem State.setCoefA_t : (s.setCoefA x).t = s.t := rfl
@[simp] theorem State.setCoefA_fault : (s.setCoefA x).fault = s.fault := rfl
@[simp] theorem State.setCoefA_config : (s.setCoefA x).config = s.config := rfl
@[simp] theorem State.setCoefA_pending : (s.setCoefA x).pending = s.pending := rfl
@[simp] theorem State.setCoefA_answer : (s.setCoefA x).answer = s.answer := rfl
@[simp] theorem State.setCoefA_fresh : (s.setCoefA x).fresh = s.fresh := rfl
end setCoefA

section setCoefDifferences
variable (s : State) (b c d : Number)
@[simp] theorem State.setCoefDifferences_rgb : (s.setCoefDifferences b c d).rgb = s.rgb := rfl
@[simp] theorem State.setCoefDifferences_ypp : (s.setCoefDifferences b c d).ypp = s.ypp := rfl
@[simp] theorem State.setCoefDifferences_coef : (s.setCoefDifferences b c d).coef = { s.coef with b := some b, c := some c, d := some d } := rfl
@[simp] theorem State.setCoefDifferences_q : (s.setCoefDifferences b c d).q = s.q := rfl
@[simp] theorem State.setCoefDifferences_v : (s.setCoefDifferences b c d).v = s.v := rfl
@[simp] theorem State.setCoefDifferences_w : (s.setCoefDifferences b c d).w = s.w := rfl
@[simp] theorem State.setCoefDifferences_r : (s.setCoefDifferences b c d).r = s.r := rfl
@[simp] theorem State.setCoefDifferences_cw : (s.setCoefDifferences b c d).cw = s.cw := rfl
@[simp] theorem State.setCoefDifferences_t : (s.setCoefDifferences b c d).t = s.t := rfl
@[simp] theorem State.setCoefDifferences_fault : (s.setCoefDifferences b c d).fault = s.fault := rfl
@[simp] theorem State.setCoefDifferences_config : (s.setCoefDifferences b c d).config = s.config := rfl
@[simp] theorem State.setCoefDifferences_pending : (s.setCoefDifferences b c d).pending = s.pending := rfl
@[simp] theorem State.setCoefDifferences_answer : (s.setCoefDifferences b c d).answer = s.answer := rfl
@[simp] theorem State.setCoefDifferences_fresh : (s.setCoefDifferences b c d).fresh = s.fresh := rfl
end setCoefDifferences

section setCoefLuma
variable (s : State) (x : Luma Number)
@[simp] theorem State.setCoefLuma_rgb : (s.setCoefLuma x).rgb = s.rgb := rfl
@[simp] theorem State.setCoefLuma_ypp : (s.setCoefLuma x).ypp = s.ypp := rfl
@[simp] theorem State.setCoefLuma_coef : (s.setCoefLuma x).coef = { s.coef with a := some x.a, b := some x.b, c := some x.c, d := some x.d } := rfl
@[simp] theorem State.setCoefLuma_q : (s.setCoefLuma x).q = s.q := rfl
@[simp] theorem State.setCoefLuma_v : (s.setCoefLuma x).v = s.v := rfl
@[simp] theorem State.setCoefLuma_w : (s.setCoefLuma x).w = s.w := rfl
@[simp] theorem State.setCoefLuma_r : (s.setCoefLuma x).r = s.r := rfl
@[simp] theorem State.setCoefLuma_cw : (s.setCoefLuma x).cw = s.cw := rfl
@[simp] theorem State.setCoefLuma_t : (s.setCoefLuma x).t = s.t := rfl
@[simp] theorem State.setCoefLuma_fault : (s.setCoefLuma x).fault = s.fault := rfl
@[simp] theorem State.setCoefLuma_config : (s.setCoefLuma x).config = s.config := rfl
@[simp] theorem State.setCoefLuma_pending : (s.setCoefLuma x).pending = s.pending := rfl
@[simp] theorem State.setCoefLuma_answer : (s.setCoefLuma x).answer = s.answer := rfl
@[simp] theorem State.setCoefLuma_fresh : (s.setCoefLuma x).fresh = s.fresh := rfl
end setCoefLuma

section setCoefChroma
variable (s : State) (x : Chroma Number)
@[simp] theorem State.setCoefChroma_rgb : (s.setCoefChroma x).rgb = s.rgb := rfl
@[simp] theorem State.setCoefChroma_ypp : (s.setCoefChroma x).ypp = s.ypp := rfl
@[simp] theorem State.setCoefChroma_coef : (s.setCoefChroma x).coef = { s.coef with pb := some x.pb, pr := some x.pr } := rfl
@[simp] theorem State.setCoefChroma_q : (s.setCoefChroma x).q = s.q := rfl
@[simp] theorem State.setCoefChroma_v : (s.setCoefChroma x).v = s.v := rfl
@[simp] theorem State.setCoefChroma_w : (s.setCoefChroma x).w = s.w := rfl
@[simp] theorem State.setCoefChroma_r : (s.setCoefChroma x).r = s.r := rfl
@[simp] theorem State.setCoefChroma_cw : (s.setCoefChroma x).cw = s.cw := rfl
@[simp] theorem State.setCoefChroma_t : (s.setCoefChroma x).t = s.t := rfl
@[simp] theorem State.setCoefChroma_fault : (s.setCoefChroma x).fault = s.fault := rfl
@[simp] theorem State.setCoefChroma_config : (s.setCoefChroma x).config = s.config := rfl
@[simp] theorem State.setCoefChroma_pending : (s.setCoefChroma x).pending = s.pending := rfl
@[simp] theorem State.setCoefChroma_answer : (s.setCoefChroma x).answer = s.answer := rfl
@[simp] theorem State.setCoefChroma_fresh : (s.setCoefChroma x).fresh = s.fresh := rfl
end setCoefChroma

section setQA
variable (s : State) (x : Word64)
@[simp] theorem State.setQA_rgb : (s.setQA x).rgb = s.rgb := rfl
@[simp] theorem State.setQA_ypp : (s.setQA x).ypp = s.ypp := rfl
@[simp] theorem State.setQA_coef : (s.setQA x).coef = s.coef := rfl
@[simp] theorem State.setQA_q : (s.setQA x).q = { s.q with a := some x } := rfl
@[simp] theorem State.setQA_v : (s.setQA x).v = s.v := rfl
@[simp] theorem State.setQA_w : (s.setQA x).w = s.w := rfl
@[simp] theorem State.setQA_r : (s.setQA x).r = s.r := rfl
@[simp] theorem State.setQA_cw : (s.setQA x).cw = s.cw := rfl
@[simp] theorem State.setQA_t : (s.setQA x).t = s.t := rfl
@[simp] theorem State.setQA_fault : (s.setQA x).fault = s.fault := rfl
@[simp] theorem State.setQA_config : (s.setQA x).config = s.config := rfl
@[simp] theorem State.setQA_pending : (s.setQA x).pending = s.pending := rfl
@[simp] theorem State.setQA_answer : (s.setQA x).answer = s.answer := rfl
@[simp] theorem State.setQA_fresh : (s.setQA x).fresh = s.fresh := rfl
end setQA

section setQDifferences
variable (s : State) (b c d : Word64)
@[simp] theorem State.setQDifferences_rgb : (s.setQDifferences b c d).rgb = s.rgb := rfl
@[simp] theorem State.setQDifferences_ypp : (s.setQDifferences b c d).ypp = s.ypp := rfl
@[simp] theorem State.setQDifferences_coef : (s.setQDifferences b c d).coef = s.coef := rfl
@[simp] theorem State.setQDifferences_q : (s.setQDifferences b c d).q = { s.q with b := some b, c := some c, d := some d } := rfl
@[simp] theorem State.setQDifferences_v : (s.setQDifferences b c d).v = s.v := rfl
@[simp] theorem State.setQDifferences_w : (s.setQDifferences b c d).w = s.w := rfl
@[simp] theorem State.setQDifferences_r : (s.setQDifferences b c d).r = s.r := rfl
@[simp] theorem State.setQDifferences_cw : (s.setQDifferences b c d).cw = s.cw := rfl
@[simp] theorem State.setQDifferences_t : (s.setQDifferences b c d).t = s.t := rfl
@[simp] theorem State.setQDifferences_fault : (s.setQDifferences b c d).fault = s.fault := rfl
@[simp] theorem State.setQDifferences_config : (s.setQDifferences b c d).config = s.config := rfl
@[simp] theorem State.setQDifferences_pending : (s.setQDifferences b c d).pending = s.pending := rfl
@[simp] theorem State.setQDifferences_answer : (s.setQDifferences b c d).answer = s.answer := rfl
@[simp] theorem State.setQDifferences_fresh : (s.setQDifferences b c d).fresh = s.fresh := rfl
end setQDifferences

section setQChroma
variable (s : State) (x y : Word64)
@[simp] theorem State.setQChroma_rgb : (s.setQChroma x y).rgb = s.rgb := rfl
@[simp] theorem State.setQChroma_ypp : (s.setQChroma x y).ypp = s.ypp := rfl
@[simp] theorem State.setQChroma_coef : (s.setQChroma x y).coef = s.coef := rfl
@[simp] theorem State.setQChroma_q : (s.setQChroma x y).q = { s.q with pb := some x, pr := some y } := rfl
@[simp] theorem State.setQChroma_v : (s.setQChroma x y).v = s.v := rfl
@[simp] theorem State.setQChroma_w : (s.setQChroma x y).w = s.w := rfl
@[simp] theorem State.setQChroma_r : (s.setQChroma x y).r = s.r := rfl
@[simp] theorem State.setQChroma_cw : (s.setQChroma x y).cw = s.cw := rfl
@[simp] theorem State.setQChroma_t : (s.setQChroma x y).t = s.t := rfl
@[simp] theorem State.setQChroma_fault : (s.setQChroma x y).fault = s.fault := rfl
@[simp] theorem State.setQChroma_config : (s.setQChroma x y).config = s.config := rfl
@[simp] theorem State.setQChroma_pending : (s.setQChroma x y).pending = s.pending := rfl
@[simp] theorem State.setQChroma_answer : (s.setQChroma x y).answer = s.answer := rfl
@[simp] theorem State.setQChroma_fresh : (s.setQChroma x y).fresh = s.fresh := rfl
end setQChroma

section setQAll
variable (s : State) (x : Six Word64)
@[simp] theorem State.setQAll_rgb : (s.setQAll x).rgb = s.rgb := rfl
@[simp] theorem State.setQAll_ypp : (s.setQAll x).ypp = s.ypp := rfl
@[simp] theorem State.setQAll_coef : (s.setQAll x).coef = s.coef := rfl
@[simp] theorem State.setQAll_q : (s.setQAll x).q = x.map some := rfl
@[simp] theorem State.setQAll_v : (s.setQAll x).v = s.v := rfl
@[simp] theorem State.setQAll_w : (s.setQAll x).w = s.w := rfl
@[simp] theorem State.setQAll_r : (s.setQAll x).r = s.r := rfl
@[simp] theorem State.setQAll_cw : (s.setQAll x).cw = s.cw := rfl
@[simp] theorem State.setQAll_t : (s.setQAll x).t = s.t := rfl
@[simp] theorem State.setQAll_fault : (s.setQAll x).fault = s.fault := rfl
@[simp] theorem State.setQAll_config : (s.setQAll x).config = s.config := rfl
@[simp] theorem State.setQAll_pending : (s.setQAll x).pending = s.pending := rfl
@[simp] theorem State.setQAll_answer : (s.setQAll x).answer = s.answer := rfl
@[simp] theorem State.setQAll_fresh : (s.setQAll x).fresh = s.fresh := rfl
end setQAll

section drawn
variable (s : State) (n : Nat)
@[simp] theorem State.drawn_rgb : (s.drawn n).rgb = s.rgb := rfl
@[simp] theorem State.drawn_ypp : (s.drawn n).ypp = s.ypp := rfl
@[simp] theorem State.drawn_coef : (s.drawn n).coef = s.coef := rfl
@[simp] theorem State.drawn_q : (s.drawn n).q = s.q := rfl
@[simp] theorem State.drawn_v : (s.drawn n).v = s.v := rfl
@[simp] theorem State.drawn_w : (s.drawn n).w = s.w := rfl
@[simp] theorem State.drawn_r : (s.drawn n).r = s.r := rfl
@[simp] theorem State.drawn_cw : (s.drawn n).cw = s.cw := rfl
@[simp] theorem State.drawn_t : (s.drawn n).t = s.t := rfl
@[simp] theorem State.drawn_fault : (s.drawn n).fault = s.fault := rfl
@[simp] theorem State.drawn_config : (s.drawn n).config = s.config := rfl
@[simp] theorem State.drawn_pending : (s.drawn n).pending = s.pending := rfl
@[simp] theorem State.drawn_answer : (s.drawn n).answer = s.answer := rfl
@[simp] theorem State.drawn_fresh : (s.drawn n).fresh = s.fresh + n := rfl
end drawn

section setAnswer
variable (s : State) (x : HostData)
@[simp] theorem State.setAnswer_rgb : (s.setAnswer x).rgb = s.rgb := rfl
@[simp] theorem State.setAnswer_ypp : (s.setAnswer x).ypp = s.ypp := rfl
@[simp] theorem State.setAnswer_coef : (s.setAnswer x).coef = s.coef := rfl
@[simp] theorem State.setAnswer_q : (s.setAnswer x).q = s.q := rfl
@[simp] theorem State.setAnswer_v : (s.setAnswer x).v = s.v := rfl
@[simp] theorem State.setAnswer_w : (s.setAnswer x).w = s.w := rfl
@[simp] theorem State.setAnswer_r : (s.setAnswer x).r = s.r := rfl
@[simp] theorem State.setAnswer_cw : (s.setAnswer x).cw = s.cw := rfl
@[simp] theorem State.setAnswer_t : (s.setAnswer x).t = s.t := rfl
@[simp] theorem State.setAnswer_fault : (s.setAnswer x).fault = s.fault := rfl
@[simp] theorem State.setAnswer_config : (s.setAnswer x).config = s.config := rfl
@[simp] theorem State.setAnswer_pending : (s.setAnswer x).pending = s.pending := rfl
@[simp] theorem State.setAnswer_answer : (s.setAnswer x).answer = some x := rfl
@[simp] theorem State.setAnswer_fresh : (s.setAnswer x).fresh = s.fresh := rfl
end setAnswer

section issue
variable (s : State) (x : Word32)
@[simp] theorem State.issue_rgb : (s.issue x).rgb = s.rgb := rfl
@[simp] theorem State.issue_ypp : (s.issue x).ypp = s.ypp := rfl
@[simp] theorem State.issue_coef : (s.issue x).coef = s.coef := rfl
@[simp] theorem State.issue_q : (s.issue x).q = s.q := rfl
@[simp] theorem State.issue_v : (s.issue x).v = s.v := rfl
@[simp] theorem State.issue_w : (s.issue x).w = s.w := rfl
@[simp] theorem State.issue_r : (s.issue x).r = s.r := rfl
@[simp] theorem State.issue_cw : (s.issue x).cw = s.cw := rfl
@[simp] theorem State.issue_t : (s.issue x).t = s.t := rfl
@[simp] theorem State.issue_fault : (s.issue x).fault = s.fault := rfl
@[simp] theorem State.issue_config : (s.issue x).config = s.config := rfl
@[simp] theorem State.issue_pending : (s.issue x).pending = .command x :: s.pending := rfl
@[simp] theorem State.issue_answer : (s.issue x).answer = s.answer := rfl
@[simp] theorem State.issue_fresh : (s.issue x).fresh = s.fresh := rfl
end issue

section setNumber
variable (s : State) (n : NumReg) (x : Number)
@[simp] theorem State.setNumber_q : (s.setNumber n x).q = s.q := by cases n <;> rfl
@[simp] theorem State.setNumber_v : (s.setNumber n x).v = s.v := by cases n <;> rfl
@[simp] theorem State.setNumber_w : (s.setNumber n x).w = s.w := by cases n <;> rfl
@[simp] theorem State.setNumber_r : (s.setNumber n x).r = s.r := by cases n <;> rfl
@[simp] theorem State.setNumber_cw : (s.setNumber n x).cw = s.cw := by cases n <;> rfl
@[simp] theorem State.setNumber_t : (s.setNumber n x).t = s.t := by cases n <;> rfl
@[simp] theorem State.setNumber_fault : (s.setNumber n x).fault = s.fault := by cases n <;> rfl
@[simp] theorem State.setNumber_config : (s.setNumber n x).config = s.config := by cases n <;> rfl
@[simp] theorem State.setNumber_pending : (s.setNumber n x).pending = s.pending := by cases n <;> rfl
@[simp] theorem State.setNumber_answer : (s.setNumber n x).answer = s.answer := by cases n <;> rfl
@[simp] theorem State.setNumber_fresh : (s.setNumber n x).fresh = s.fresh := by cases n <;> rfl
end setNumber

@[simp] theorem State.raise_number (s : State) (x : Raise) (n : NumReg) : (s.raise x).number n = s.number n := by
  cases n <;> rfl

/-- A numeric register holds what was last written to it, and keeps what it held when another is written. -/
theorem State.setNumber_number (s : State) (n k : NumReg) (x : Number) :
    (s.setNumber n x).number k = if k = n then some x else s.number k := by
  by_cases h : k = n
  · subst h
    cases k with
    | rgb p j => cases p <;> cases j <;> rfl
    | ypp p j => cases p <;> cases j <;> rfl
    | coef j => cases j <;> rfl
  · rw [if_neg h]
    cases n with
    | rgb p j =>
      cases k with
      | rgb p' j' =>
        cases p <;> cases p' <;> first | rfl | (cases j <;> cases j' <;> first | rfl | exact absurd rfl h)
      | ypp p' j' => rfl
      | coef j' => rfl
    | ypp p j =>
      cases k with
      | rgb p' j' => rfl
      | ypp p' j' =>
        cases p <;> cases p' <;> first | rfl | (cases j <;> cases j' <;> first | rfl | exact absurd rfl h)
      | coef j' => rfl
    | coef j =>
      cases k with
      | rgb p' j' => rfl
      | ypp p' j' => rfl
      | coef j' => cases j <;> cases j' <;> first | rfl | exact absurd rfl h

/-- One of six holds what was last written to it, and keeps what it held when another is written. -/
theorem sixPart_setSixPart {α : Type} (x : Six α) (n k : Part) (v : α) :
    sixPart (setSixPart x n v) k = if k = n then v else sixPart x k := by
  cases n <;> cases k <;> rfl

@[simp] theorem Quad.get_set {α : Type} (x : Quad α) (p : Pixel) (v : α) : (x.set p v).get p = v := by
  cases p <;> rfl

theorem Quad.get_set_of_ne {α : Type} (x : Quad α) {p k : Pixel} (v : α) (h : k ≠ p) :
    (x.set p v).get k = x.get k := by
  cases p <;> cases k <;> first | rfl | exact absurd rfl h

@[simp] theorem Quad.get_map {α β : Type} (f : α → β) (x : Quad α) (p : Pixel) :
    (x.map f).get p = f (x.get p) := by
  cases p <;> rfl

/-- The low field of the fault byte (R27). -/
theorem faultByte_code (i c : BitVec 4) : (i ++ c : BitVec 8).extractLsb' 0 4 = c := by
  revert i c
  decide

/-- The high field of the fault byte (R27). -/
theorem faultByte_info (i c : BitVec 4) : (i ++ c : BitVec 8).extractLsb' 4 4 = i := by
  revert i c
  decide

/-- `FAULT.code` after a raise (R266). -/
@[simp] theorem State.raise_faultCode (s : State) (x : Raise) : (s.raise x).faultCode = x.code.number :=
  faultByte_code _ _

/-- `FAULT.info` after a raise (R266). -/
@[simp] theorem State.raise_faultInfo (s : State) (x : Raise) : (s.raise x).faultInfo = x.info :=
  faultByte_info _ _

/-- A raise halts the core (R28, R266). -/
@[simp] theorem State.raise_halted (s : State) (x : Raise) : (s.raise x).halted = true := by
  unfold State.halted
  rw [State.raise_faultCode]
  cases x.code <;> rfl

/-- Only `FAULT` decides whether a state is halted (R28). -/
theorem State.halted_congr {s t : State} (h : s.fault = t.fault) : s.halted = t.halted := by
  simp [State.halted, State.faultCode, h]

end Sys2Proof.Machine
end

