-- ==== Sys2Proof/Laws/Ops.lean ====
section
/-! SUPPORT. What each shared operation can do, said once: the checked computations, the shell of a command,
the sequence of two commands, and the readers of source registers. -/

namespace Sys2Proof.Machine

/-! ### Checked computations -/

@[simp] theorem Checked.ok_bind {α β : Type} (x : α) (f : α → Checked β) :
    ((Except.ok x : Checked α) >>= f) = f x := rfl

@[simp] theorem Checked.error_bind {α β : Type} (e : Raise) (f : α → Checked β) :
    ((Except.error e : Checked α) >>= f) = Except.error e := rfl

@[simp] theorem Checked.pure_eq {α : Type} (x : α) : (pure x : Checked α) = Except.ok x := rfl

/-- A bind succeeds exactly when both parts do. -/
theorem Checked.bind_eq_ok {α β : Type} {x : Checked α} {f : α → Checked β} {b : β} :
    (x >>= f) = Except.ok b ↔ ∃ a, x = Except.ok a ∧ f a = Except.ok b := by
  cases x <;> simp

/-- A bind raises exactly when its first part does, or its first part succeeds and its second raises. -/
theorem Checked.bind_eq_error {α β : Type} {x : Checked α} {f : α → Checked β} {e : Raise} :
    (x >>= f) = Except.error e ↔
      x = Except.error e ∨ ∃ a, x = Except.ok a ∧ f a = Except.error e := by
  cases x <;> simp

@[simp] theorem source_some {α : Type} (x : α) : source (some x) = Except.ok x := rfl

@[simp] theorem source_none {α : Type} : source (none : Option α) = Except.error ⟨.unwritten, 0⟩ := rfl

theorem source_eq_ok {α : Type} {x : Option α} {a : α} : source x = Except.ok a ↔ x = some a := by
  cases x <;> simp

@[simp] theorem ensure_true (x : Raise) : ensure true x = Except.ok () := rfl

@[simp] theorem ensure_false (x : Raise) : ensure false x = Except.error x := rfl

theorem ensure_eq_ok {c : Bool} {x : Raise} {u : Unit} : ensure c x = Except.ok u ↔ c = true := by
  cases c <;> simp

@[simp] theorem inRange_true (info : BitVec 4) : inRange true info = Except.ok () := rfl

@[simp] theorem inRange_false (info : BitVec 4) : inRange false info = Except.error ⟨.outOfRange, info⟩ := rfl

@[simp] theorem computed_some {α : Type} (x : α) : computed (some x) = Except.ok x := rfl

@[simp] theorem computed_none {α : Type} : computed (none : Option α) = Except.error ⟨.nonfinite, 0⟩ := rfl

theorem computed_eq_ok {α : Type} {x : Option α} {a : α} : computed x = Except.ok a ↔ x = some a := by
  cases x <;> simp

/-- A number with a finite value reads as that value. -/
theorem finite_of_value {x : Number} {q : Rat} (h : numberValue x = some q) : finite x = Except.ok q := by
  simp [finite, h]

/-- An infinity or a NaN raises NONFINITE (R112 (a)). -/
theorem finite_of_none {x : Number} (h : numberValue x = none) : finite x = Except.error ⟨.nonfinite, 0⟩ := by
  simp [finite, h]

theorem finite_eq_ok {x : Number} {q : Rat} : finite x = Except.ok q ↔ numberValue x = some q := by
  unfold finite
  cases numberValue x <;> simp

theorem pixel_of_pixelOf {idx : Byte} {p : Pixel} (h : pixelOf idx = some p) : pixel idx = Except.ok p := by
  simp [pixel, h]

/-! ### The shell of a command -/

/-- A halted core drops the command (R267). -/
theorem command_of_halted {s : State} (h : s.halted = true) (body : Checked State) : command s body = .next s := by
  simp [command, h]

/-- A command that raises nothing leaves the state it computes (R74). -/
theorem command_ok {s : State} (h : s.halted = false) (s' : State) : command s (.ok s') = .next s' := by
  simp [command, h]

/-- A command that raises a fault writes nothing but `FAULT` (R74, R266). -/
theorem command_error {s : State} (h : s.halted = false) (x : Raise) :
    command s (.error x) = .next (s.raise x) := by
  simp [command, h]

/-- Everything a command can answer: the state unchanged while halted, the state its body computes, or the
fault its body raises. -/
theorem command_cases (s : State) (body : Checked State) :
    (s.halted = true ∧ command s body = .next s) ∨
      (s.halted = false ∧ ∃ s', body = .ok s' ∧ command s body = .next s') ∨
      (s.halted = false ∧ ∃ x, body = .error x ∧ command s body = .next (s.raise x)) := by
  cases h : s.halted with
  | true => exact .inl ⟨rfl, command_of_halted h body⟩
  | false =>
    cases body with
    | ok s' => exact .inr (.inl ⟨rfl, s', rfl, command_ok h s'⟩)
    | error x => exact .inr (.inr ⟨rfl, x, rfl, command_error h x⟩)

/-- A command always answers a next state. -/
theorem command_next (s : State) (body : Checked State) : ∃ t, command s body = .next t := by
  rcases command_cases s body with h | ⟨_, t, _, h⟩ | ⟨_, x, _, h⟩
  · exact ⟨s, h.2⟩
  · exact ⟨t, h⟩
  · exact ⟨_, h⟩

@[simp] theorem andThen_next (s : State) (f : State → Answer) : andThen (.next s) f = f s := rfl

/-- A property of next states kept by each part of a sequence is kept by the sequence. -/
theorem andThen_of {P : State → Prop} {o : Answer} {f : State → Answer}
    (ho : ∃ t, o = .next t ∧ P t) (hf : ∀ t, P t → ∃ u, f t = .next u ∧ P u) :
    ∃ u, andThen o f = .next u ∧ P u := by
  obtain ⟨t, rfl, ht⟩ := ho
  exact hf t ht

/-! ### Readers of groups of sources -/

theorem sourceRgb_eq_ok {x : Rgb (Option Number)} {z : Rgb Number} :
    sourceRgb x = Except.ok z ↔ x = z.map some := by
  obtain ⟨r, g, b⟩ := x
  obtain ⟨r', g', b'⟩ := z
  cases r <;> cases g <;> cases b <;> simp [sourceRgb, Rgb.map]

theorem sourceYpp_eq_ok {x : Ypp (Option Number)} {z : Ypp Number} :
    sourceYpp x = Except.ok z ↔ x = z.map some := by
  obtain ⟨r, g, b⟩ := x
  obtain ⟨r', g', b'⟩ := z
  cases r <;> cases g <;> cases b <;> simp [sourceYpp, Ypp.map]

theorem sourceQuad_eq_ok {α : Type} {x : Quad (Option α)} {z : Quad α} :
    sourceQuad x = Except.ok z ↔ x = z.map some := by
  obtain ⟨a, b, c, d⟩ := x
  obtain ⟨a', b', c', d'⟩ := z
  cases a <;> cases b <;> cases c <;> cases d <;> simp [sourceQuad, Quad.map]

theorem sourceChroma_eq_ok {α : Type} {x : Six (Option α)} {z : Chroma α} :
    sourceChroma x = Except.ok z ↔ x.pb = some z.pb ∧ x.pr = some z.pr := by
  obtain ⟨_, _, _, _, pb, pr⟩ := x
  obtain ⟨pb', pr'⟩ := z
  cases pb <;> cases pr <;> simp [sourceChroma]

theorem sourceLuma_eq_ok {x : Six (Option Number)} {z : Luma Number} :
    sourceLuma x = Except.ok z ↔ x.a = some z.a ∧ x.b = some z.b ∧ x.c = some z.c ∧ x.d = some z.d := by
  obtain ⟨a, b, c, d, _, _⟩ := x
  obtain ⟨a', b', c', d'⟩ := z
  cases a <;> cases b <;> cases c <;> cases d <;> simp [sourceLuma]

theorem sourceSix_eq_ok {α : Type} {x : Six (Option α)} {z : Six α} :
    sourceSix x = Except.ok z ↔ x = z.map some := by
  obtain ⟨a, b, c, d, pb, pr⟩ := x
  obtain ⟨a', b', c', d', pb', pr'⟩ := z
  cases a <;> cases b <;> cases c <;> cases d <;> cases pb <;> cases pr <;> simp [sourceSix, Six.map]

theorem finiteRgb_eq_ok {x : Rgb Number} {z : Rgb Rat} :
    finiteRgb x = Except.ok z ↔ x.map numberValue = z.map some := by
  obtain ⟨r, g, b⟩ := x
  obtain ⟨r', g', b'⟩ := z
  simp [finiteRgb, Rgb.map, Checked.bind_eq_ok, finite_eq_ok]

theorem finiteYpp_eq_ok {x : Ypp Number} {z : Ypp Rat} :
    finiteYpp x = Except.ok z ↔ x.map numberValue = z.map some := by
  obtain ⟨r, g, b⟩ := x
  obtain ⟨r', g', b'⟩ := z
  simp [finiteYpp, Ypp.map, Checked.bind_eq_ok, finite_eq_ok]

theorem finiteQuad_eq_ok {x : Quad Number} {z : Quad Rat} :
    finiteQuad x = Except.ok z ↔ x.map numberValue = z.map some := by
  obtain ⟨a, b, c, d⟩ := x
  obtain ⟨a', b', c', d'⟩ := z
  simp [finiteQuad, Quad.map, Checked.bind_eq_ok, finite_eq_ok]

theorem finiteLuma_eq_ok {x : Luma Number} {z : Luma Rat} :
    finiteLuma x = Except.ok z ↔ x.map numberValue = z.map some := by
  obtain ⟨a, b, c, d⟩ := x
  obtain ⟨a', b', c', d'⟩ := z
  simp [finiteLuma, Luma.map, Checked.bind_eq_ok, finite_eq_ok]

theorem finiteChroma_eq_ok {x : Chroma Number} {z : Chroma Rat} :
    finiteChroma x = Except.ok z ↔ x.map numberValue = z.map some := by
  obtain ⟨a, b⟩ := x
  obtain ⟨a', b'⟩ := z
  simp [finiteChroma, Chroma.map, Checked.bind_eq_ok, finite_eq_ok]

end Sys2Proof.Machine
end

