-- ==== Sys2Proof/Laws/Exec.lean ====
section
/-! SUPPORT. Every command answers a next state: none faults in the model's sense and none is refused. -/

namespace Sys2Proof.Machine

/-- A sequence answers a next state if each of its commands does. -/
theorem andThen_next_of {o : Answer} {f : State → Answer} (ho : ∃ t, o = .next t)
    (hf : ∀ t, ∃ u, f t = .next u) : ∃ u, andThen o f = .next u := by
  obtain ⟨t, rfl⟩ := ho
  exact hf t

/-- ENCBLK answers a next state. -/
theorem execEncblk_next (s : State) : ∃ t, execEncblk s = .next t := by
  unfold execEncblk
  repeat' apply andThen_next_of
  all_goals first | exact command_next _ _ | exact fun t => command_next _ _

/-- DECBLK answers a next state. -/
theorem execDecblk_next (s : State) : ∃ t, execDecblk s = .next t := by
  unfold execDecblk
  repeat' apply andThen_next_of
  all_goals first | exact command_next _ _ | exact fun t => command_next _ _

/-- Every command answers a next state. -/
theorem exec_next (i : Instr) (s : State) : ∃ t, exec i s = .next t := by
  cases i
  case encblk => exact execEncblk_next s
  case decblk => exact execDecblk_next s
  all_goals exact command_next _ _

end Sys2Proof.Machine
end

