-- ==== Sys2Proof/Laws/Numerics.lean ====
section
/-! SUPPORT. Small laws of the numeric primitives: EXACT does not round, zero and negation commute with
rounding, and what rounding can answer. -/

namespace Sys2Proof.Machine

@[simp] theorem roundTo_exact (x : Rat) : roundTo .exact x = some x := rfl

@[simp] theorem lit_exact (x : Rat) : lit .exact x = x := rfl

@[simp] theorem fadd_exact (x y : Rat) : fadd .exact x y = some (x + y) := rfl

@[simp] theorem fsub_exact (x y : Rat) : fsub .exact x y = some (x - y) := rfl

@[simp] theorem fmul_exact (x y : Rat) : fmul .exact x y = some (x * y) := rfl

@[simp] theorem fdiv_exact (x y : Rat) : fdiv .exact x y = some (x / y) := rfl

@[simp] theorem fofint_exact (n : Int) : fofint .exact n = some (n : Rat) := rfl

@[simp] theorem numberOf_exact (x : Rat) : numberOf .exact x = .rational x := rfl

@[simp] theorem numberValue_rational (q : Rat) : numberValue (.rational q) = some q := rfl

@[simp] theorem numberValue_zero : numberValue .zero = some 0 := rfl

@[simp] theorem roundBinary32_zero : roundBinary32 0 = some 0 := rfl

@[simp] theorem roundTo_zero (m : PNum) : roundTo m 0 = some 0 := by
  cases m <;> rfl

/-- A result of rounding is never beyond the largest finite value (R107). -/
theorem abs_le_maxFinite_of_roundBinary32 {x y : Rat} (h : roundBinary32 x = some y) : |y| ≤ maxFinite := by
  unfold roundBinary32 at h
  split at h
  · obtain rfl : (0 : Rat) = y := by simpa using h
    rw [abs_zero]
    norm_num [maxFinite]
  · dsimp only at h
    split at h
    · rename_i hle
      obtain rfl := Option.some.inj h
      exact hle
    · cases h

/-- The spacing of the grid is positive and the same for `x` and `-x` (R107). -/
theorem gridStep_pos (x : Rat) : 0 < gridStep x := by
  unfold gridStep
  split <;> positivity

theorem gridStep_neg (x : Rat) : gridStep (-x) = gridStep x := by
  simp [gridStep]

/-- The nearest integer is at most half away (R107). -/
theorem abs_sub_nearestEven_le (x : Rat) : |x - nearestEven x| ≤ 1 / 2 := by
  have h0 := Int.floor_le x
  have h1 := Int.lt_floor_add_one x
  unfold nearestEven
  split_ifs <;> push_cast <;> rw [abs_le] <;> constructor <;> linarith

/-- `fclamp` lies between its bounds (R110). -/
theorem fclamp_mem {x lo hi : Rat} (h : lo ≤ hi) : lo ≤ fclamp x lo hi ∧ fclamp x lo hi ≤ hi := by
  unfold fclamp
  split_ifs <;> constructor <;> linarith

/-- Rounding to the nearest integer, ties to even, is odd (R107). -/
theorem nearestEven_neg (x : Rat) : nearestEven (-x) = -nearestEven x := by
  have h0 := Int.floor_le x
  have h1 := Int.lt_floor_add_one x
  by_cases hx : x = ⌊x⌋
  · have e : ⌊-x⌋ = -⌊x⌋ := by
      rw [Int.floor_eq_iff]; push_cast; constructor <;> linarith
    unfold nearestEven
    rw [e, if_pos (by push_cast; linarith), if_pos (by linarith)]
  · have hlt : (⌊x⌋ : Rat) < x := lt_of_le_of_ne h0 (Ne.symm hx)
    have e : ⌊-x⌋ = -⌊x⌋ - 1 := by
      rw [Int.floor_eq_iff]; push_cast; constructor <;> linarith
    unfold nearestEven
    rw [e]
    push_cast
    split_ifs <;> first | omega | (exfalso; linarith)

/-- Rounding to binary32 is odd (R107). -/
theorem roundBinary32_neg (x : Rat) : roundBinary32 (-x) = (roundBinary32 x).map (-·) := by
  unfold roundBinary32
  by_cases h : x = 0
  · simp [h]
  · rw [if_neg h, if_neg (neg_ne_zero.mpr h)]
    dsimp only
    rw [gridStep_neg, neg_div, nearestEven_neg]
    push_cast
    rw [neg_mul, abs_neg]
    split_ifs <;> rfl

/-- The rounding of an instance is odd. -/
theorem roundTo_neg (m : PNum) (x : Rat) : roundTo m (-x) = (roundTo m x).map (-·) := by
  cases m
  · exact roundBinary32_neg x
  · rfl

/-- A negated literal is the literal of the negated decimal. -/
theorem lit_neg (m : PNum) (x : Rat) : lit m (-x) = -lit m x := by
  unfold lit
  rw [roundTo_neg]
  cases roundTo m x <;> simp

/-- `fclamp` as a maximum and a minimum (R110). -/
theorem fclamp_eq {lo hi : Rat} (x : Rat) (h : lo ≤ hi) : fclamp x lo hi = max lo (min x hi) := by
  unfold fclamp
  split_ifs with h1 h2
  · rw [max_eq_left (le_trans (min_le_left _ _) h1.le)]
  · rw [min_eq_right h2.le, max_eq_right h]
  · rw [min_eq_left (not_lt.mp h2), max_eq_right (not_lt.mp h1)]

end Sys2Proof.Machine
end

