-- ==== Sys2Proof/Laws/PerInstr.lean ====
section
/-! SUPPORT. Statements made for all commands, one lemma for each constructor. `OpcodeBits` says that the fields of
a command's word are its `op` byte and its operands, the fields it does not use being zero (R73, R75, R76),
and that `op` decides the mnemonic. -/

namespace Sys2Proof.Laws.OpcodeBits

/-- The `op` column of R76. -/
def opOf : Instr → Byte
  | .fitsu _ => 0x01
  | .fitss _ => 0x02
  | .getu _ _ => 0x03
  | .gets _ _ => 0x04
  | .setu _ _ => 0x05
  | .sets _ _ => 0x06
  | .cscf _ => 0x08
  | .csci _ => 0x09
  | .btf => 0x0A
  | .bti => 0x0B
  | .cavg => 0x0C
  | .crep => 0x0D
  | .qdc => 0x10
  | .qac => 0x11
  | .qch => 0x12
  | .dqdc => 0x14
  | .dqac => 0x15
  | .dqch => 0x16
  | .pack => 0x18
  | .unpack => 0x19
  | .encblk => 0x1C
  | .decblk => 0x1D

/-- The `width` operand, 0 for a command without one (R75). -/
def widthOf : Instr → Byte
  | .fitsu width => width
  | .fitss width => width
  | .getu width _ => width
  | .gets width _ => width
  | .setu width _ => width
  | .sets width _ => width
  | .cscf _ => 0
  | .csci _ => 0
  | .btf => 0
  | .bti => 0
  | .cavg => 0
  | .crep => 0
  | .qdc => 0
  | .qac => 0
  | .qch => 0
  | .dqdc => 0
  | .dqac => 0
  | .dqch => 0
  | .pack => 0
  | .unpack => 0
  | .encblk => 0
  | .decblk => 0

/-- The `lsb` operand, 0 for a command without one (R75). -/
def lsbOf : Instr → Byte
  | .fitsu _ => 0
  | .fitss _ => 0
  | .getu _ lsb => lsb
  | .gets _ lsb => lsb
  | .setu _ lsb => lsb
  | .sets _ lsb => lsb
  | .cscf _ => 0
  | .csci _ => 0
  | .btf => 0
  | .bti => 0
  | .cavg => 0
  | .crep => 0
  | .qdc => 0
  | .qac => 0
  | .qch => 0
  | .dqdc => 0
  | .dqac => 0
  | .dqch => 0
  | .pack => 0
  | .unpack => 0
  | .encblk => 0
  | .decblk => 0

/-- The `idx` operand, 0 for a command without one (R75). -/
def idxOf : Instr → Byte
  | .fitsu _ => 0
  | .fitss _ => 0
  | .getu _ _ => 0
  | .gets _ _ => 0
  | .setu _ _ => 0
  | .sets _ _ => 0
  | .cscf idx => idx
  | .csci idx => idx
  | .btf => 0
  | .bti => 0
  | .cavg => 0
  | .crep => 0
  | .qdc => 0
  | .qac => 0
  | .qch => 0
  | .dqdc => 0
  | .dqac => 0
  | .dqch => 0
  | .pack => 0
  | .unpack => 0
  | .encblk => 0
  | .decblk => 0

/-- The fields of a command's word are its `op` and its operands, and its row of the opcode map matches it. -/
def Statement (i : Instr) : Prop :=
  fieldsOf (encode i) = ⟨opOf i, widthOf i, lsbOf i, idxOf i⟩ ∧
    ∃ row ∈ opcodeMap, row.mnemonic = i.mnemonic ∧ row.pattern.extractLsb' 24 8 = opOf i

theorem fitsu (width : Byte) : Statement (.fitsu width) :=
  ⟨fieldsOf_wordOf _ _ _ _, opcodeMap[0], by decide, rfl, rfl⟩

theorem fitss (width : Byte) : Statement (.fitss width) :=
  ⟨fieldsOf_wordOf _ _ _ _, opcodeMap[1], by decide, rfl, rfl⟩

theorem getu (width lsb : Byte) : Statement (.getu width lsb) :=
  ⟨fieldsOf_wordOf _ _ _ _, opcodeMap[2], by decide, rfl, rfl⟩

theorem gets (width lsb : Byte) : Statement (.gets width lsb) :=
  ⟨fieldsOf_wordOf _ _ _ _, opcodeMap[3], by decide, rfl, rfl⟩

theorem setu (width lsb : Byte) : Statement (.setu width lsb) :=
  ⟨fieldsOf_wordOf _ _ _ _, opcodeMap[4], by decide, rfl, rfl⟩

theorem sets (width lsb : Byte) : Statement (.sets width lsb) :=
  ⟨fieldsOf_wordOf _ _ _ _, opcodeMap[5], by decide, rfl, rfl⟩

theorem cscf (idx : Byte) : Statement (.cscf idx) :=
  ⟨fieldsOf_wordOf _ _ _ _, opcodeMap[6], by decide, rfl, rfl⟩

theorem csci (idx : Byte) : Statement (.csci idx) :=
  ⟨fieldsOf_wordOf _ _ _ _, opcodeMap[7], by decide, rfl, rfl⟩

theorem btf : Statement .btf :=
  ⟨fieldsOf_wordOf _ _ _ _, opcodeMap[8], by decide, rfl, rfl⟩

theorem bti : Statement .bti :=
  ⟨fieldsOf_wordOf _ _ _ _, opcodeMap[9], by decide, rfl, rfl⟩

theorem cavg : Statement .cavg :=
  ⟨fieldsOf_wordOf _ _ _ _, opcodeMap[10], by decide, rfl, rfl⟩

theorem crep : Statement .crep :=
  ⟨fieldsOf_wordOf _ _ _ _, opcodeMap[11], by decide, rfl, rfl⟩

theorem qdc : Statement .qdc :=
  ⟨fieldsOf_wordOf _ _ _ _, opcodeMap[12], by decide, rfl, rfl⟩

theorem qac : Statement .qac :=
  ⟨fieldsOf_wordOf _ _ _ _, opcodeMap[13], by decide, rfl, rfl⟩

theorem qch : Statement .qch :=
  ⟨fieldsOf_wordOf _ _ _ _, opcodeMap[14], by decide, rfl, rfl⟩

theorem dqdc : Statement .dqdc :=
  ⟨fieldsOf_wordOf _ _ _ _, opcodeMap[15], by decide, rfl, rfl⟩

theorem dqac : Statement .dqac :=
  ⟨fieldsOf_wordOf _ _ _ _, opcodeMap[16], by decide, rfl, rfl⟩

theorem dqch : Statement .dqch :=
  ⟨fieldsOf_wordOf _ _ _ _, opcodeMap[17], by decide, rfl, rfl⟩

theorem pack : Statement .pack :=
  ⟨fieldsOf_wordOf _ _ _ _, opcodeMap[18], by decide, rfl, rfl⟩

theorem unpack : Statement .unpack :=
  ⟨fieldsOf_wordOf _ _ _ _, opcodeMap[19], by decide, rfl, rfl⟩

theorem encblk : Statement .encblk :=
  ⟨fieldsOf_wordOf _ _ _ _, opcodeMap[20], by decide, rfl, rfl⟩

theorem decblk : Statement .decblk :=
  ⟨fieldsOf_wordOf _ _ _ _, opcodeMap[21], by decide, rfl, rfl⟩

end Sys2Proof.Laws.OpcodeBits
end

