-- ==== Sys2Proof/Laws/Registers.lean ====
section
/-! SUPPORT. Reading and writing registers by name: a write sets the register it names, marks it written, and
leaves every other register as it was (R21, R22). -/

namespace Sys2Proof.Machine

/-- A numeric register reads back what was written. -/
theorem number_setNumber_same (s : State) (n : NumReg) (x : Number) : (s.setNumber n x).number n = some x := by
  rcases n with ⟨p, k⟩ | ⟨p, k⟩ | k <;> (try cases p) <;> cases k <;> rfl

/-- Writing a numeric register leaves every other register. -/
theorem agree_setNumber (s : State) {n : NumReg} (x : Number) {y : Reg} (h : y ≠ .num n) :
    Agree s (s.setNumber n x) y := by
  rcases n with ⟨p, k⟩ | ⟨p, k⟩ | k <;>
    rcases y with (⟨p', k'⟩ | ⟨p', k'⟩ | k') | k' | _ | _ | _ | _ | _ <;> try rfl
  all_goals (try cases p) <;> cases k <;> (try cases p') <;> cases k' <;> first | rfl | exact absurd rfl h

/-- A `Q` register reads back what was written. -/
theorem q_setQ_same (s : State) (k : Part) (x : Word64) : sixPart (s.setQ k x).q k = some x := by
  cases k <;> rfl

/-- Writing a `Q` register leaves every other register. -/
theorem agree_setQ (s : State) {k : Part} (x : Word64) {y : Reg} (h : y ≠ .q k) : Agree s (s.setQ k x) y := by
  rcases y with (⟨p, k'⟩ | ⟨p, k'⟩ | k') | k' | _ | _ | _ | _ | _ <;> try rfl
  cases k <;> cases k' <;> first | rfl | exact absurd rfl h

/-- Raising a fault leaves every data register (R266). -/
theorem agree_raise (s : State) (x : Raise) (y : Reg) : Agree s (s.raise x) y := by
  rcases y with (_ | _ | _) | _ | _ | _ | _ | _ | _ <;> rfl

end Sys2Proof.Machine
end

