-- ==== Sys2Proof/Laws/Sequence.lean ====
section
/-! SUPPORT. Commands in sequence (R244): a composite is the sequence of its constituents, a sequence splits at any
point, and a halted core drops what is left of one. -/

namespace Sys2Proof.Machine

@[simp] theorem runCommands_nil (s : State) : runCommands [] s = .next s := rfl

@[simp] theorem runCommands_cons (c : Instr) (cs : List Instr) (s : State) :
    runCommands (c :: cs) s = andThen (exec c s) (runCommands cs) := rfl

/-- Sequencing is associative. -/
theorem andThen_assoc (o : Answer) (f g : State → Answer) :
    andThen (andThen o f) g = andThen o (fun s => andThen (f s) g) := by
  cases o <;> rfl

/-- Sequencing with nothing. -/
theorem andThen_next_right (o : Answer) : andThen o Host.Outcome.next = o := by
  cases o <;> rfl

/-- A sequence in two parts. -/
theorem runCommands_append (cs ds : List Instr) (s : State) :
    runCommands (cs ++ ds) s = andThen (runCommands cs s) (runCommands ds) := by
  induction cs generalizing s with
  | nil => rfl
  | cons c cs ih =>
    have hf : runCommands (cs ++ ds) = fun t => andThen (runCommands cs t) (runCommands ds) := funext ih
    rw [List.cons_append, runCommands_cons, runCommands_cons, hf, andThen_assoc]

/-- Single-stage commands leave a halted core as it is (R267). -/
theorem exec_of_halted_single {c : Instr} (hc : ¬ Composite c) {s : State} (h : s.halted = true) :
    exec c s = .next s := by
  cases c
  case encblk => exact absurd trivial hc
  case decblk => exact absurd trivial hc
  all_goals exact command_of_halted h _

/-- A halted core drops the whole of a sequence of single-stage commands (R267). -/
theorem runCommands_of_halted {cs : List Instr} (hc : ∀ c ∈ cs, ¬ Composite c) {s : State} (h : s.halted = true) :
    runCommands cs s = .next s := by
  induction cs with
  | nil => rfl
  | cons c cs ih =>
    rw [runCommands_cons, exec_of_halted_single (hc c List.mem_cons_self) h]
    exact ih fun d hd => hc d (List.mem_cons_of_mem c hd)

/-- No constituent of a composite is itself a composite (R241, R242). -/
theorem not_composite_of_mem_constituents {i c : Instr} (h : c ∈ constituents i) : ¬ Composite c := by
  cases i <;> simp only [constituents, encblkCommands, decblkCommands, List.mem_cons, List.not_mem_nil, or_false] at h
  all_goals rcases h with rfl | rfl | rfl | rfl | rfl | rfl | rfl | rfl | rfl | rfl <;> exact id

/-- A composite runs its constituents in sequence (R241, R242). -/
theorem exec_composite {i : Instr} (h : Composite i) (s : State) : exec i s = runCommands (constituents i) s := by
  have hn : ∀ o : Answer, andThen o (fun t => Host.Outcome.next t) = o := andThen_next_right
  cases i
  case encblk =>
    simp only [constituents, encblkCommands, runCommands]
    show execEncblk s = _
    unfold execEncblk
    simp only [andThen_assoc, hn, exec]
  case decblk =>
    simp only [constituents, decblkCommands, runCommands]
    show execDecblk s = _
    unfold execDecblk
    simp only [andThen_assoc, hn, exec]
  all_goals exact h.elim

end Sys2Proof.Machine
end

