-- ==== Sys2Proof/Tests/Slice0.lean ====
section
/-! SUPPORT. Tests of the model's own work: the well-formedness smoke test, one decoding per command with its word
written out from R73 and R76, one or two steps per command with results copied from 95_test_vectors.md (V) or
from a rule's example (R), and for each statement with hypotheses a state and operands that meet them. -/

namespace Sys2Proof.Tests

open Sys2Proof.Machine

/-- A next state that passes a check. -/
def answers (o : Answer) (p : State → Bool) : Bool :=
  match o with
  | .next s => p s
  | .fault _ => false
  | .refused _ => false

/-- The state an answer leaves. -/
def after (o : Answer) : State :=
  match o with
  | .next s => s
  | .fault _ => State.reset
  | .refused _ => State.reset

/-- After reset, with `V` and `W` written. -/
def bits (v w : Int) : State := (State.reset.setV (sext64 v)).setW (sext64 w)

/-- After reset, with numeric registers written as patterns. -/
def patterns (xs : List (NumReg × BitVec 32)) : State :=
  xs.foldl (fun s x => s.setNumber x.1 (.pattern x.2)) State.reset

/-- After reset under EXACT, with numeric registers written. -/
def rationals (xs : List (NumReg × Rat)) : State :=
  xs.foldl (fun s x => s.setNumber x.1 (.rational x.2)) { State.reset with config := Config.reference }

/-- A pixel's `RGB`, `YPP` triple, the four lumas, the coefficients, as register lists for the two above. -/
def rgbOf {α : Type} (p : Pixel) (r g b : α) : List (NumReg × α) :=
  [(.rgb p .r, r), (.rgb p .g, g), (.rgb p .b, b)]

def yppOf {α : Type} (p : Pixel) (y pb pr : α) : List (NumReg × α) :=
  [(.ypp p .y, y), (.ypp p .pb, pb), (.ypp p .pr, pr)]

def lumasOf {α : Type} (y1 y2 y3 y4 : α) : List (NumReg × α) :=
  [(.ypp .topLeft .y, y1), (.ypp .topRight .y, y2), (.ypp .bottomLeft .y, y3), (.ypp .bottomRight .y, y4)]

def coefOf {α : Type} (a b c d pb pr : α) : List (NumReg × α) :=
  [(.coef .a, a), (.coef .b, b), (.coef .c, c), (.coef .d, d), (.coef .pb, pb), (.coef .pr, pr)]

/-- The same triple in all four pixels. -/
def flatRgb {α : Type} (r g b : α) : List (NumReg × α) :=
  rgbOf .topLeft r g b ++ rgbOf .topRight r g b ++ rgbOf .bottomLeft r g b ++ rgbOf .bottomRight r g b

def flatYpp {α : Type} (y pb pr : α) : List (NumReg × α) :=
  yppOf .topLeft y pb pr ++ yppOf .topRight y pb pr ++ yppOf .bottomLeft y pb pr ++ yppOf .bottomRight y pb pr

/-- Six `Q` values. -/
def six (a b c d pb pr : Int) : Six Word64 := ⟨sext64 a, sext64 b, sext64 c, sext64 d, sext64 pb, sext64 pr⟩

/-- After reset, with all six `Q` registers written. -/
def quantised (a b c d pb pr : Int) : State := State.reset.setQAll (six a b c d pb pr)

/-- After reset, with `CW` written. -/
def coded (cw : Word32) : State := State.reset.setCw cw

/-- A halted state: reset, then a command word that is illegal. -/
def halted : State := { State.reset with fault := 0x03 }

/-! ### Well-formedness and decoding -/

/-- R78 (c): a CSCF or CSCI of pixel 4 is ill formed, of pixel 3 it is not. -/
theorem test_wellFormed_smoke :
    (Instr.cscf 4).wellFormed = false ∧ (Instr.csci 4).wellFormed = false ∧ (Instr.csci 255).wellFormed = false ∧
      (Instr.cscf 3).wellFormed = true ∧ (Instr.fitsu 0).wellFormed = true := by decide

theorem test_decode_fitsu : decode 0b00000001_00001001_00000000_00000000 = .ok (.fitsu 9) := by decide
theorem test_decode_fitss : decode 0b00000010_00000101_00000000_00000000 = .ok (.fitss 5) := by decide
theorem test_decode_getu : decode 0b00000011_00000110_00000010_00000000 = .ok (.getu 6 2) := by decide
theorem test_decode_gets : decode 0b00000100_00000110_00000010_00000000 = .ok (.gets 6 2) := by decide
theorem test_decode_setu : decode 0b00000101_00001001_00010111_00000000 = .ok (.setu 9 23) := by decide
theorem test_decode_sets : decode 0b00000110_00000101_00010010_00000000 = .ok (.sets 5 18) := by decide
theorem test_decode_cscf : decode 0b00001000_00000000_00000000_00000011 = .ok (.cscf 3) := by decide
theorem test_decode_csci : decode 0b00001001_00000000_00000000_00000010 = .ok (.csci 2) := by decide
theorem test_decode_btf : decode 0b00001010_00000000_00000000_00000000 = .ok .btf := by decide
theorem test_decode_bti : decode 0b00001011_00000000_00000000_00000000 = .ok .bti := by decide
theorem test_decode_cavg : decode 0b00001100_00000000_00000000_00000000 = .ok .cavg := by decide
theorem test_decode_crep : decode 0b00001101_00000000_00000000_00000000 = .ok .crep := by decide
theorem test_decode_qdc : decode 0b00010000_00000000_00000000_00000000 = .ok .qdc := by decide
theorem test_decode_qac : decode 0b00010001_00000000_00000000_00000000 = .ok .qac := by decide
theorem test_decode_qch : decode 0b00010010_00000000_00000000_00000000 = .ok .qch := by decide
theorem test_decode_dqdc : decode 0b00010100_00000000_00000000_00000000 = .ok .dqdc := by decide
theorem test_decode_dqac : decode 0b00010101_00000000_00000000_00000000 = .ok .dqac := by decide
theorem test_decode_dqch : decode 0b00010110_00000000_00000000_00000000 = .ok .dqch := by decide
theorem test_decode_pack : decode 0b00011000_00000000_00000000_00000000 = .ok .pack := by decide
theorem test_decode_unpack : decode 0b00011001_00000000_00000000_00000000 = .ok .unpack := by decide
theorem test_decode_encblk : decode 0b00011100_00000000_00000000_00000000 = .ok .encblk := by decide
theorem test_decode_decblk : decode 0b00011101_00000000_00000000_00000000 = .ok .decblk := by decide

/-- V9.1: words that do not decode, by R78 (a), (b) and (c). -/
theorem test_decode_illegal :
    decode 0x00000000 = .error (.unknownOp 0) ∧ decode 0x0E000000 = .error (.unknownOp 0x0E) ∧
      decode 0x13000000 = .error (.unknownOp 0x13) ∧ decode 0xFF000000 = .error (.unknownOp 0xFF) ∧
      decode 0x02050100 = .error .unusedFieldNotZero ∧ decode 0x08010000 = .error .unusedFieldNotZero ∧
      decode 0x080000FF = .error (.pixelIndexAbove3 0xFF) := by decide

theorem test_decodeTableWord :
    decodeTableWord 32 0x04060200 = some (.gets 6 2) ∧ decodeTableWord 32 0x07000000 = none := by decide

/-! ### The host port -/

/-- A step from reset runs the word placed: PACK with nothing written raises UNWRITTEN (R265). -/
theorem test_step_runs_word : answers (step (State.reset.withFetchWord 32 0x18000000)) (fun t => t.fault = 5) = true := by
  decide

/-- R40: the next action leaves the list. -/
theorem test_step_takes_action :
    answers (step { State.reset with pending := [.write 0x00 (.word 7), .reset] })
      (fun t => t.v = some 7 ∧ t.pending = [.reset]) = true := by decide

/-- V9.4, R290: a reset clears the fault. -/
theorem test_reset_clears : answers (hostAction .reset halted) (fun t => t.fault = 0 ∧ t = State.reset) = true := by
  decide

/-- R31, V9.4: `FAULT` reads back zero-extended on a halted core, and no write changes it. -/
theorem test_host_fault :
    answers (hostAction (.read 0x05) halted) (fun t => t.answer = some (.word 3)) = true ∧
      answers (hostAction (.write 0x05 (.word 0)) halted) (fun t => t = halted) = true := by decide

/-- R31: a write of `CW` is truncated to 32 bits; R30: 0x06 and 0x50 are unassigned. -/
theorem test_host_write :
    answers (hostAction (.write 0x04 (.word 0x1_0000_0007)) State.reset) (fun t => t.cw = some 7) = true ∧
      answers (hostAction (.write 0x06 (.word 1)) State.reset) (fun t => t = State.reset) = true ∧
      hostReg 0x50 = none ∧ hostReg 0x2B = some (.data (.num (.ypp .bottomRight .pr))) := by decide

/-! ### One step per command -/

/-- V1.1: 511 fits 9 bits. -/
theorem test_fitsu_fits : answers (exec (.fitsu 9) (bits 511 0)) (fun t => t.t = some true) = true := by decide

/-- V1.1: 512 does not. -/
theorem test_fitsu_misfit : answers (exec (.fitsu 9) (bits 512 0)) (fun t => t.t = some false ∧ t.fault = 0) = true := by
  decide

/-- V1.2: -16 fits 5 bits. -/
theorem test_fitss_fits : answers (exec (.fitss 5) (bits (-16) 0)) (fun t => t.t = some true) = true := by decide

/-- V1.2: -17 does not. -/
theorem test_fitss_misfit : answers (exec (.fitss 5) (bits (-17) 0)) (fun t => t.t = some false) = true := by decide

/-- V2.1. -/
theorem test_getu : answers (exec (.getu 6 2) (bits 0 0x3F4)) (fun t => t.r = some 61) = true := by decide

/-- V2.1: the whole word. -/
theorem test_getu_whole :
    answers (exec (.getu 64 0) (bits 0 (-1))) (fun t => t.r = some 0xFFFFFFFFFFFFFFFF) = true := by decide

/-- V2.1. -/
theorem test_gets : answers (exec (.gets 6 2) (bits 0 0x3F4)) (fun t => t.r = some 0xFFFFFFFFFFFFFFFD) = true := by
  decide

/-- V2.1: the top bit alone, sign-extended. -/
theorem test_gets_top :
    answers (exec (.gets 1 63) (bits 0 (-2 ^ 63))) (fun t => t.r = some 0xFFFFFFFFFFFFFFFF) = true := by decide

/-- V3.1: the span is cleared first. -/
theorem test_setu :
    answers (exec (.setu 9 23) (bits 0x155 (-1))) (fun t => t.w = some 0xFFFFFFFFAAFFFFFF) = true := by decide

/-- V3.1: 512 does not fit 9 bits. -/
theorem test_setu_misfit :
    answers (exec (.setu 9 23) (bits 512 0)) (fun t => t.fault = 0x01 ∧ t.w = some 0) = true := by decide

/-- V3.1. -/
theorem test_sets : answers (exec (.sets 5 18) (bits (-16) 0)) (fun t => t.w = some 0x400000) = true := by decide

/-- R139, V9.2: a bad width is reported before a value that does not fit. -/
theorem test_sets_order : answers (exec (.sets 0 18) (bits (-17) 0)) (fun t => t.fault = 0x02) = true := by decide

/-- V4.1: pure red under BINARY32. -/
theorem test_cscf :
    answers (exec (.cscf 2) (patterns (rgbOf .bottomLeft 0x3F800000 0x00000000 0x00000000)))
      (fun t => t.ypp.bottomLeft =
        ⟨some (.pattern 0x3E991687), some (.pattern 0xBE2CC921), some (.pattern 0x3F000000)⟩) = true := by
  decide +kernel

/-- R151, the example under EXACT. -/
theorem test_cscf_exact :
    answers (exec (.cscf 0) (rationals (rgbOf .topLeft (2 / 10) (4 / 10) (6 / 10))))
      (fun t => t.ypp.topLeft = ⟨some (.rational (363 / 1000)), some (.rational (1337472 / 10000000)),
        some (.rational (-1162624 / 10000000))⟩) = true := by decide +kernel

/-- R152, the example under BINARY32, its inputs by R116 and R206. -/
theorem test_csci :
    answers (exec (.csci 3) (patterns (yppOf .bottomRight 0x3F000000 0x3DCCCCCD 0xBE4CCCCD)))
      (fun t => t.rgb.bottomRight =
        ⟨some (.pattern 0x3E60DED2), some (.pattern 0x3F1BC0FE), some (.pattern 0x3F2D5CFB)⟩) = true := by
  decide +kernel

/-- V4.4: a product that overflows. -/
theorem test_csci_overflow :
    answers (exec (.csci 1) (patterns (yppOf .topRight 0x7F7FFFFF 0x00000000 0x7F7FFFFF)))
      (fun t => t.fault = 0x04 ∧ t.rgb = State.reset.rgb) = true := by decide +kernel

/-- V5.3. -/
theorem test_btf :
    answers (exec .btf (patterns (lumasOf 0x3E4CCCCD 0x3ECCCCCD 0x3F19999A 0x3F4CCCCD)))
      (fun t => t.coef = ⟨some (.pattern 0x3F000000), some (.pattern 0x3E4CCCCF), some (.pattern 0x3DCCCCCE),
        some (.pattern 0xB1800000), none, none⟩) = true := by decide +kernel

/-- R171: a single bright pixel under EXACT. -/
theorem test_btf_exact :
    answers (exec .btf (rationals (lumasOf 1 0 0 0)))
      (fun t => t.coef.a = some (.rational (1 / 4)) ∧ t.coef.b = some (.rational (-1 / 4)) ∧
        t.coef.c = some (.rational (-1 / 4)) ∧ t.coef.d = some (.rational (1 / 4))) = true := by decide +kernel

/-- R172, the example under EXACT. -/
theorem test_bti :
    answers (exec .bti (rationals (coefOf (1 / 2) (1 / 10) (-1 / 10) (5 / 100) 0 0)))
      (fun t => (t.ypp.map fun z => z.y) = ⟨some (.rational (55 / 100)), some (.rational (25 / 100)),
        some (.rational (65 / 100)), some (.rational (55 / 100))⟩) = true := by decide +kernel

/-- V5.3: BTI of what BTF gave. -/
theorem test_bti_binary32 :
    answers (exec .bti (patterns (coefOf 0x3F000000 0x3E4CCCCF 0x3DCCCCCE 0xB1800000 0 0)))
      (fun t => (t.ypp.map fun z => z.y) = ⟨some (.pattern 0x3E4CCCC9), some (.pattern 0x3ECCCCCC),
        some (.pattern 0x3F19999A), some (.pattern 0x3F4CCCCE)⟩) = true := by decide +kernel

/-- V5.4, R173: opposite values cancel, and equal values give themselves. -/
theorem test_cavg :
    answers (exec .cavg (patterns (yppOf .topLeft 0 0xBF000000 0x3F000000 ++ yppOf .topRight 0 0x3F000000 0x3F000000 ++
      yppOf .bottomLeft 0 0xBF000000 0x3F000000 ++ yppOf .bottomRight 0 0x3F000000 0x3F000000)))
      (fun t => t.coef.pb = some .zero ∧ t.coef.pr = some (.pattern 0x3F000000) ∧ t.coef.a = none) = true := by
  decide +kernel

/-- V5.5: bit for bit. -/
theorem test_crep :
    answers (exec .crep (patterns [(.coef .pb, 0x3E19999A), (.coef .pr, 0xBDCCCCCD)]))
      (fun t => (t.ypp.map fun z => z.pb) = Quad.map some ⟨.pattern 0x3E19999A, .pattern 0x3E19999A,
          .pattern 0x3E19999A, .pattern 0x3E19999A⟩ ∧ t.ypp.bottomRight.pr = some (.pattern 0xBDCCCCCD) ∧
        t.ypp.topLeft.y = none) = true := by decide +kernel

/-- V6.1: one half goes up. -/
theorem test_qdc : answers (exec .qdc (patterns [(.coef .a, 0x3F000000)])) (fun t => t.q.a = some 256) = true := by
  decide +kernel

/-- V6.1: saturation below 0. -/
theorem test_qdc_below : answers (exec .qdc (rationals [(.coef .a, -1 / 10)])) (fun t => t.q.a = some 0) = true := by
  decide +kernel

/-- R197, the example: 0.1, -0.2, 0.3. -/
theorem test_qac :
    answers (exec .qac (patterns [(.coef .b, 0x3DCCCCCD), (.coef .c, 0xBE4CCCCD), (.coef .d, 0x3E99999A)]))
      (fun t => t.q.b = some 5 ∧ t.q.c = some 0xFFFFFFFFFFFFFFF6 ∧ t.q.d = some 15) = true := by decide +kernel

/-- R197 under EXACT: the half cases 0.01 and -0.01, and saturation at -0.5. -/
theorem test_qac_halves :
    answers (exec .qac (rationals [(.coef .b, 1 / 100), (.coef .c, -1 / 100), (.coef .d, -1 / 2)]))
      (fun t => t.q.b = some 1 ∧ t.q.c = some 0 ∧ t.q.d = some 0xFFFFFFFFFFFFFFF1) = true := by decide +kernel

/-- R198, the example. -/
theorem test_qch :
    answers (exec .qch (rationals [(.coef .pb, 1337472 / 10000000), (.coef .pr, -1162624 / 10000000)]))
      (fun t => t.q.pb = some 13 ∧ t.q.pr = some 3 ∧ t.fresh = 0) = true := by decide +kernel

/-- R198: 0 is a tie between entries 7 and 8, and 0.5 saturates. -/
theorem test_qch_tie :
    answers (exec .qch (patterns [(.coef .pb, 0x80000000), (.coef .pr, 0x3F000000)]))
      (fun t => t.q.pb = some 7 ∧ t.q.pr = some 15) = true := by decide +kernel

/-- V6.2. -/
theorem test_dqdc :
    answers (exec .dqdc (quantised 256 0 0 0 0 0)) (fun t => t.coef.a = some (.pattern 0x3F004020)) = true := by
  decide +kernel

/-- R199: 512 is out of range. -/
theorem test_dqdc_misfit : answers (exec .dqdc (quantised 512 0 0 0 0 0)) (fun t => t.fault = 0x01) = true := by
  decide

/-- R200, the example. -/
theorem test_dqac :
    answers (exec .dqac (quantised 0 5 (-10) 15 0 0))
      (fun t => t.coef.b = some (.pattern 0x3DCCCCCE) ∧ t.coef.c = some (.pattern 0xBE4CCCCE) ∧
        t.coef.d = some (.pattern 0x3E99999A)) = true := by decide +kernel

/-- R203: the code -16. -/
theorem test_dqac_least :
    answers (exec .dqac (quantised 0 (-16) 0 (-1) 0 0))
      (fun t => t.coef.b = some (.pattern 0xBEA3D70B) ∧ t.coef.c = some .zero ∧
        t.coef.d = some (.pattern 0xBCA3D70B)) = true := by decide +kernel

/-- R201, the example. -/
theorem test_dqch :
    answers (exec .dqch (quantised 0 0 0 0 13 3))
      (fun t => t.coef.pb = some (.pattern 0x3E19999A) ∧ t.coef.pr = some (.pattern 0xBDCCCCCD)) = true := by decide

/-- V6.7: 16 is out of range. -/
theorem test_dqch_misfit :
    answers (exec .dqch (quantised 0 0 0 0 0 16)) (fun t => t.fault = 0x01 ∧ t.coef = State.reset.coef) = true := by
  decide

/-- V7.1. -/
theorem test_pack :
    answers (exec .pack (quantised 256 5 (-10) 0 7 8))
      (fun t => t.cw = some 0x8016C078 ∧ t.w = some 0x8016C078) = true := by decide

/-- V7.2: of several misfits the first is reported. -/
theorem test_pack_misfit :
    answers (exec .pack (quantised 0 0 0 99 99 0)) (fun t => t.fault = 0x41 ∧ t.cw = none ∧ t.w = none) = true := by
  decide

/-- V7.3. -/
theorem test_unpack :
    answers (exec .unpack (coded 0xDEADBEEF))
      (fun t => t.q = (six 445 11 13 (-2) 14 15).map some ∧ t.w = some 0xDEADBEEF) = true := by decide

/-- V8.1, block F: white. -/
theorem test_encblk :
    answers (exec .encblk (patterns (flatRgb 0x3F800000 0x3F800000 0x3F800000)))
      (fun t => t.cw = some 0xFF800077 ∧ t.fault = 0) = true := by decide +kernel

/-- V8.1, block A under EXACT: grey. -/
theorem test_encblk_exact :
    answers (exec .encblk (rationals (flatRgb (1 / 2) (1 / 2) (1 / 2)))) (fun t => t.cw = some 0x80000077) = true := by
  decide +kernel

/-- V8.6: white decoded. -/
theorem test_decblk :
    answers (exec .decblk (coded 0xFF800077))
      (fun t => t.rgb.bottomLeft =
        ⟨some (.pattern 0x3F7C0D4E), some (.pattern 0x3F817D74), some (.pattern 0x3F7B0293)⟩ ∧ t.fault = 0) = true := by
  decide +kernel

/-- R265: DECBLK with `CW` unwritten. -/
theorem test_decblk_unwritten :
    answers (exec .decblk State.reset) (fun t => t = { State.reset with fault := 0x05 }) = true := by decide

/-! ### Witnesses: each statement's hypotheses are met, clause by clause -/

/-- DecodeOfEncode: the largest pixel index. -/
theorem witness_decodeOfEncode : (Instr.csci 3).wellFormed = true ∧ (Instr.gets 255 255).wellFormed = true := by
  decide

/-- DecodedWordIsItsEncoding. -/
theorem witness_decodedWord : decode 0x06FFFF00 = .ok (.sets 255 255) := by decide

/-- DecodeFollowsTheOpcodeMap: a word that matches a row and decodes, and one that matches and does not. -/
theorem witness_opcodeMap :
    opcodeMap[6]? = some ⟨"CSCF", 0x08000000, 0xFFFFFF00⟩ ∧
      (0x08000003 : Word32) &&& 0xFFFFFF00 = 0x08000000 ∧ decode 0x08000003 = .ok (.cscf 3) ∧
      (0x08000004 : Word32) &&& 0xFFFFFF00 = 0x08000000 ∧ decode 0x08000004 = .error (.pixelIndexAbove3 4) := by
  decide

/-- IllegalCommandWordsExactly: an illegal word of each case and a legal one. -/
theorem witness_illegalWords :
    IllegalWord 0x1E000000 ∧ IllegalWord 0x18000001 ∧ IllegalWord 0x09000004 ∧ ¬ IllegalWord 0x09000003 := by
  refine ⟨trivial, .inl ?_, .inr ?_, ?_⟩
  · show ¬ ((0 : Byte) = 0 ∧ (0 : Byte) = 0 ∧ (1 : Byte) = 0)
    decide
  · exact ⟨rfl, by decide⟩
  · rintro (h | h)
    · exact h ⟨by decide, by decide⟩
    · exact absurd h.2 (by decide)

/-- IllegalCommandWordsExactly: a running core with `V` and `W` written, and legal words with a bad width or span. -/
theorem witness_badWidths :
    Running (bits 0 0) ∧ (bits 0 0).v = some 0 ∧ (bits 0 0).w = some 0 ∧
      decode 0x01410000 = .ok (.fitsu 65) ∧ ¬ (1 ≤ (65 : Byte).toNat ∧ (65 : Byte).toNat ≤ 64) ∧
      decode 0x03400100 = .ok (.getu 64 1) ∧
      ¬ (1 ≤ (64 : Byte).toNat ∧ (1 : Byte).toNat + (64 : Byte).toNat ≤ 64) := by decide

/-- StepRunsTheDecodedCommand: a pending command, another pending action, and none. -/
theorem witness_step :
    (State.reset.issue 0x18000000).pending = .command 0x18000000 :: [] ∧ decode 0x18000000 = .ok .pack ∧
      ({ State.reset with pending := [.reset] } : State).pending = .reset :: [] ∧ State.reset.pending = [] ∧
      Instr.pack.wellFormed = true := by decide

/-- HaltedCoreHonoursOnlyReadAndReset and the last clause of HostResetLeavesEveryRegisterUnwritten. -/
theorem witness_halted : halted.halted = true ∧ HostAction.command 0x18000000 ≠ .reset := by decide

/-- HostWriteSetsOneRegister and HostReadReturnsTheRegister: a number of each kind, in each instance. -/
theorem witness_hostRegisters :
    Running State.reset ∧ hostReg 0x00 = some (.data .v) ∧ hostReg 0x01 = some (.data .w) ∧
      hostReg 0x02 = some (.data .r) ∧ hostReg 0x03 = some (.data .t) ∧ hostReg 0x04 = some (.data .cw) ∧
      hostReg 0x05 = some .fault ∧ hostReg 0x3D = some (.data (.q .pr)) ∧
      hostReg 0x1B = some (.data (.num (.rgb .bottomRight .b))) ∧ hostReg 0x4F = some (.chroma 15) ∧
      hostReg 0xFF = none ∧ State.reset.config.pnum = .binary32 ∧ (rationals []).config.pnum = .exact := by decide

/-- HostReadReturnsTheRegister: every register written, a numeric register of each form, and the table. -/
theorem witness_hostRead :
    (bits 1 2).v = some 1 ∧ (bits 1 2).w = some 2 ∧ (State.reset.setR 3).r = some 3 ∧ (coded 4).cw = some 4 ∧
      (State.reset.setT true).t = some true ∧ sixPart (quantised 0 0 0 0 0 5).q .pr = some 5 ∧
      (patterns [(.coef .a, 0x7FC00000)]).number (.coef .a) = some (.pattern 0x7FC00000) ∧
      (State.reset.setNumber (.coef .a) .zero).number (.coef .a) = some .zero ∧
      (rationals [(.coef .a, 1)]).number (.coef .a) = some (.rational 1) ∧
      State.reset.config.chroma.toList[15]? = some (.pattern 0x3EB33333) ∧
      (rationals []).config.chroma.toList[0]? = some (.rational (-35 / 100)) := by decide +kernel

/-- StepStopsOnlyOnAForeignHostValue: a step that is refused. -/
theorem witness_refused :
    step { State.reset with pending := [.write 0x10 (.rational 1)] } = .refused .hostValueOfOtherKind ∧
      step { rationals [] with pending := [.write 0x10 (.word 1)] } = .refused .hostValueOfOtherKind := ⟨rfl, rfl⟩

/-- FitsCommandsSetThePredicate, GetCommandsReadTheSpan, SetCommandsWriteTheSpan: the narrowest and the widest
spans. -/
theorem witness_bitFields :
    Running (bits 0 (-1)) ∧ (bits 0 (-1)).v = some 0 ∧ (bits 0 (-1)).w = some (-1) ∧ 1 ≤ (64 : Byte).toNat ∧
      (64 : Byte).toNat ≤ 64 ∧ (0 : Byte).toNat + (64 : Byte).toNat ≤ 64 ∧ 1 ≤ (1 : Byte).toNat ∧
      (63 : Byte).toNat + (1 : Byte).toNat ≤ 64 ∧ (0 : Word64).toNat < 2 ^ (1 : Byte).toNat ∧
      -2 ^ ((1 : Byte).toNat - 1) ≤ (0 : Word64).toInt ∧ (0 : Word64).toInt < 2 ^ ((1 : Byte).toNat - 1) := by decide

/-- BitFieldFaultsInOrder: the sources unwritten, a width of 0 and of 65, a span that ends at bit 65, and values just
outside one and four bits. -/
theorem witness_bitFieldFaults :
    Running State.reset ∧ State.reset.v = none ∧ State.reset.w = none ∧ (bits 16 0).v = some 16 ∧
      (bits 16 0).w = some 0 ∧ ¬ (1 ≤ (0 : Byte).toNat ∧ (0 : Byte).toNat ≤ 64) ∧
      ¬ (1 ≤ (2 : Byte).toNat ∧ (63 : Byte).toNat + (2 : Byte).toNat ≤ 64) ∧
      2 ^ (4 : Byte).toNat ≤ (16 : Word64).toNat ∧ 2 ^ ((5 : Byte).toNat - 1) ≤ (16 : Word64).toInt ∧
      (sext64 (-17)).toInt < -2 ^ ((5 : Byte).toNat - 1) := by decide

/-- GetAfterSetRoundTrips: a span, a value of each kind at its bound, and a neighbouring span. -/
theorem witness_getAfterSet :
    1 ≤ 5 ∧ 18 + 5 ≤ 64 ∧ fitsUnsigned 31 5 = true ∧ fitsSigned (-16) 5 = true ∧ 1 ≤ 9 ∧ 23 + 9 ≤ 64 ∧
      (23 + 9 ≤ 18 ∨ 18 + 5 ≤ 23) := by decide

/-- RoundingIsNearestTiesToEven: a tie between two values of the grid, and the overflow threshold. -/
theorem witness_rounding :
    roundBinary32 (1 + 1 / 2 ^ 24) = some 1 ∧
      |(1 + 1 / 2 ^ 24 : Rat) - 1| = |(1 + 1 / 2 ^ 24 : Rat) - (1 + 1 / 2 ^ 23)| ∧
      roundBinary32 (2 ^ 128 - 2 ^ 103) = none ∧ roundBinary32 (2 ^ 128 - 2 ^ 104) = some (2 ^ 128 - 2 ^ 104) := by
  decide +kernel

/-- RoundingIsNearestTiesToEven and PatternsDenoteTheGrid: values of the grid, the other one of that tie among them. -/
theorem witness_grid : OnGrid 1 ∧ OnGrid (1 + 1 / 2 ^ 23) ∧ OnGrid 0 := by
  refine ⟨.inr ⟨1, 0, ?_⟩, .inr ⟨2 ^ 23 + 1, -23, ?_⟩, .inl rfl⟩ <;> decide +kernel

/-- PatternsDenoteTheGrid: the least and the greatest finite pattern, and an infinity. -/
theorem witness_patterns :
    binary32Value 0x00000001 = some (1 / 2 ^ 149) ∧ binary32Value 0x7F7FFFFF = some maxFinite ∧
      binary32Value 0x80000000 = some 0 ∧ binary32Value 0x7F800000 = none := by decide +kernel

/-- A table of sixteen patterns, `j / 64`, for witnesses. -/
def table : Vector Number 16 :=
  #v[.pattern 0x00000000, .pattern 0x3C800000, .pattern 0x3D000000, .pattern 0x3D400000,
     .pattern 0x3D800000, .pattern 0x3DA00000, .pattern 0x3DC00000, .pattern 0x3DE00000,
     .pattern 0x3E000000, .pattern 0x3E100000, .pattern 0x3E200000, .pattern 0x3E300000,
     .pattern 0x3E400000, .pattern 0x3E500000, .pattern 0x3E600000, .pattern 0x3E700000]

/-- A running core with that table and `P_TIE = ANY`. -/
def other : State := { State.reset with config := ⟨.binary32, .any, table⟩ }

/-- A table whose entries are finite patterns. -/
def finitePatterns (xs : List Number) : Bool :=
  xs.all fun x => match x with
    | .pattern p => (binary32Value p).isSome
    | .zero => false
    | .rational _ => false

theorem valid_of_finitePatterns {c : Config} (hm : c.pnum = .binary32)
    (h : finitePatterns c.chroma.toList = true) (hp : (chromaValues c).Pairwise (· < ·)) : c.Valid := by
  refine ⟨fun x hx => ?_, hp⟩
  have hx' := List.all_eq_true.mp h x hx
  cases x with
  | pattern p =>
    rw [hm]
    exact ⟨trivial, Option.isSome_iff_ne_none.mp hx'⟩
  | zero => cases hx'
  | rational q => cases hx'

/-- The hypotheses about valid configurations: ChromaIndicesAreStable, DecblkIsTotalOnCodewords,
CommandsNeverStoreANonfinite, StepKeepsTheInvariant. -/
theorem witness_valid :
    other.config.Valid ∧ Running other ∧ (∀ x ∈ chromaValues other.config, |x| ≤ 1 / 2) ∧ NumbersFinite other ∧
      Invariant other := by
  have hv : other.config.Valid := valid_of_finitePatterns rfl (by decide +kernel) (by decide +kernel)
  have hn : ∀ n, other.number n = none := by
    rintro (⟨p, k⟩ | ⟨p, k⟩ | k) <;> (try cases p) <;> cases k <;> rfl
  refine ⟨hv, by decide, by decide +kernel, fun n x h => ?_, ⟨?_, hv, fun n x h => ?_⟩⟩
  · rw [hn n] at h; cases h
  · unfold FaultLegal; decide
  · rw [hn n] at h; cases h

/-- ExactNeverRaisesNonfinite: the reference configuration, with a register written. -/
theorem witness_exact :
    Invariant (rationals [(.coef .a, 1 / 2)]) ∧ Running (rationals [(.coef .a, 1 / 2)]) ∧
      (rationals [(.coef .a, 1 / 2)]).config.pnum = .exact := by
  refine ⟨⟨?_, ⟨fun x hx => ?_, by decide +kernel⟩, fun n x h => ?_⟩, by decide, by decide⟩
  · unfold FaultLegal; decide
  · have hr : ∀ y ∈ Config.defaultChromaExact.toList, (match y with | .rational _ => true | _ => false) = true := by
      decide +kernel
    have := hr x hx
    cases x with
    | pattern p => cases this
    | zero => cases this
    | rational q => exact ⟨trivial, by simp [numberValue]⟩
  · rcases n with ⟨p, k⟩ | ⟨p, k⟩ | k <;> (try cases p) <;> cases k <;> cases h <;> trivial

/-- CscfAppliesTheForwardMatrix, CscfNeverFaultsInContract: white, the top of the range, and the least illegal
index. -/
theorem witness_cscf :
    Running (patterns (flatRgb 0x3F800000 0x3F800000 0x3F800000)) ∧
      (patterns (flatRgb 0x3F800000 0x3F800000 0x3F800000)).rgb.get .bottomRight =
        (⟨.pattern 0x3F800000, .pattern 0x3F800000, .pattern 0x3F800000⟩ : Rgb Number).map some ∧
      numberValue (.pattern 0x3F800000) = some 1 ∧ (3 : Byte).toNat = Pixel.bottomRight.index ∧
      roundedDot .binary32 [(299 / 1000, 1), (587 / 1000, 1), (114 / 1000, 1)] = some 1 ∧
      roundedDot .binary32 [(-168736 / 10 ^ 6, 1), (-331264 / 10 ^ 6, 1), (5 / 10, 1)] = some 0 ∧
      roundedDot .binary32 [(5 / 10, 1), (-418688 / 10 ^ 6, 1), (-81312 / 10 ^ 6, 1)] = some 0 ∧
      3 < (4 : Byte).toNat := by decide +kernel

/-- CsciAppliesTheInverseMatrix: a colourless pixel, and a product that overflows. -/
theorem witness_csci :
    Running (patterns (flatYpp 0x7F7FFFFF 0 0x7F7FFFFF)) ∧
      (patterns (flatYpp 0x7F7FFFFF 0 0x7F7FFFFF)).ypp.get .topRight =
        (⟨.pattern 0x7F7FFFFF, .pattern 0, .pattern 0x7F7FFFFF⟩ : Ypp Number).map some ∧
      numberValue (.pattern 0x7F7FFFFF) = some maxFinite ∧ numberValue (.pattern 0) = some 0 ∧
      (1 : Byte).toNat = Pixel.topRight.index ∧ roundedAffine .binary32 maxFinite [(1402 / 1000, maxFinite)] = none ∧
      roundedAffine .binary32 1 [(1402 / 1000, 0)] = some 1 ∧
      roundedAffine .binary32 1 [(-344136 / 10 ^ 6, 0), (-714136 / 10 ^ 6, 0)] = some 1 ∧
      roundedAffine .binary32 1 [(1772 / 1000, 0)] = some 1 := by decide +kernel

/-- ColourRoundTripIsTheProductMatrix, BtiUndoesBtfExactly: a pixel and four lumas under EXACT. -/
theorem witness_exactBlocks :
    (rationals (rgbOf .topLeft 1 0 0)).rgb.get .topLeft =
        ⟨some (.rational 1), some (.rational 0), some (.rational 0)⟩ ∧
      Running (rationals (rgbOf .topLeft 1 0 0)) ∧ (rationals (rgbOf .topLeft 1 0 0)).config.pnum = .exact ∧
      (0 : Byte).toNat = Pixel.topLeft.index ∧
      ((rationals (lumasOf 1 0 0 0)).ypp.map fun z => z.y) =
        (⟨1, 0, 0, 0⟩ : Quad Rat).map (fun q => some (.rational q)) := by decide +kernel

/-- BtfTakesTheFourSignedMeans: sums that do not overflow, and one that does. -/
theorem witness_btf :
    Running (patterns (lumasOf 0x7F7FFFFF 0x7F7FFFFF 0x7F7FFFFF 0x7F7FFFFF)) ∧
      ((patterns (lumasOf 0x7F7FFFFF 0x7F7FFFFF 0x7F7FFFFF 0x7F7FFFFF)).ypp.map fun z => z.y) =
        (⟨.pattern 0x7F7FFFFF, .pattern 0x7F7FFFFF, .pattern 0x7F7FFFFF, .pattern 0x7F7FFFFF⟩ : Quad Number).map some ∧
      numberValue (.pattern 0x7F7FFFFF) = some maxFinite ∧
      roundedQuarter .binary32 maxFinite [maxFinite, maxFinite, maxFinite] = none ∧
      roundedQuarter .binary32 1 [1, 1, 1] = some 1 ∧ roundedQuarter .binary32 1 [1, -1, -1] = some 0 ∧
      roundedQuarter .binary32 1 [-1, 1, -1] = some 0 ∧ roundedQuarter .binary32 1 [-1, -1, 1] = some 0 := by
  decide +kernel

/-- BtiTakesTheFourSignedSums: the same. -/
theorem witness_bti :
    Running (patterns (coefOf 0x7F7FFFFF 0x7F7FFFFF 0 0 0 0)) ∧
      (patterns (coefOf 0x7F7FFFFF 0x7F7FFFFF 0 0 0 0)).coef.a = some (.pattern 0x7F7FFFFF) ∧
      (patterns (coefOf 0x7F7FFFFF 0x7F7FFFFF 0 0 0 0)).coef.d = some (.pattern 0) ∧
      numberValue (.pattern 0x7F7FFFFF) = some maxFinite ∧
      roundedSum .binary32 maxFinite [maxFinite, 0, 0] = none ∧ roundedSum .binary32 1 [-1, -1, 1] = some 0 ∧
      roundedSum .binary32 1 [-1, 1, -1] = some 0 ∧ roundedSum .binary32 1 [1, -1, -1] = some 0 ∧
      roundedSum .binary32 1 [1, 1, 1] = some 4 := by decide +kernel

/-- CavgTakesTheChromaMeans: the same. -/
theorem witness_cavg :
    Running (patterns (flatYpp 0 0x7F7FFFFF 0x3F800000)) ∧
      ((patterns (flatYpp 0 0x7F7FFFFF 0x3F800000)).ypp.map fun z => z.pb) =
        (⟨.pattern 0x7F7FFFFF, .pattern 0x7F7FFFFF, .pattern 0x7F7FFFFF, .pattern 0x7F7FFFFF⟩ : Quad Number).map some ∧
      ((patterns (flatYpp 0 0x7F7FFFFF 0x3F800000)).ypp.map fun z => z.pr) =
        (⟨.pattern 0x3F800000, .pattern 0x3F800000, .pattern 0x3F800000, .pattern 0x3F800000⟩ : Quad Number).map some ∧
      numberValue (.pattern 0x7F7FFFFF) = some maxFinite ∧ numberValue (.pattern 0x3F800000) = some 1 ∧
      roundedQuarter .binary32 maxFinite [maxFinite, maxFinite, maxFinite] = none ∧
      roundedQuarter .binary32 1 [1, 1, 1] = some 1 := by decide +kernel

/-- CrepCopiesTheChromaPair, NonfiniteSourceRaises: a finite pair, and one with a NaN. -/
theorem witness_crep :
    Running (patterns [(.coef .pb, 0x7FC00000), (.coef .pr, 0x7F7FFFFF)]) ∧
      (patterns [(.coef .pb, 0x7FC00000), (.coef .pr, 0x7F7FFFFF)]).coef.pb = some (.pattern 0x7FC00000) ∧
      (patterns [(.coef .pb, 0x7FC00000), (.coef .pr, 0x7F7FFFFF)]).coef.pr = some (.pattern 0x7F7FFFFF) ∧
      numberValue (.pattern 0x7FC00000) = none ∧ numberValue (.pattern 0x7F7FFFFF) ≠ none := by decide +kernel

/-- NonfiniteSourceRaises: CREP reads both registers of that state. -/
theorem witness_nonfinite :
    ¬ Composite .crep ∧ .num (.coef .pb) ∈ reads .crep ∧
      ∀ y ∈ reads .crep, ¬ Unwritten (patterns [(.coef .pb, 0x7FC00000), (.coef .pr, 0x7F7FFFFF)]) y := by
  refine ⟨id, by decide, fun y hy => ?_⟩
  simp only [reads, List.mem_cons, List.not_mem_nil, or_false] at hy
  rcases hy with rfl | rfl <;> exact fun h => by cases h

/-- QdcQuantisesTheAverage, QacQuantisesTheDifferences, QchFindsTheNearestEntries: sources at 1, at the greatest and
the least finite value. -/
theorem witness_quantisers :
    Running (patterns (coefOf 0x3F800000 0x7F7FFFFF 0xFF7FFFFF 0 0x3F800000 0xBF800000)) ∧
      (patterns (coefOf 0x3F800000 0x7F7FFFFF 0xFF7FFFFF 0 0x3F800000 0xBF800000)).coef =
        (⟨.pattern 0x3F800000, .pattern 0x7F7FFFFF, .pattern 0xFF7FFFFF, .pattern 0, .pattern 0x3F800000,
          .pattern 0xBF800000⟩ : Six Number).map some ∧
      numberValue (.pattern 0x3F800000) = some 1 ∧ numberValue (.pattern 0x7F7FFFFF) = some maxFinite ∧
      numberValue (.pattern 0xFF7FFFFF) = some (-maxFinite) ∧ numberValue (.pattern 0) = some 0 ∧
      numberValue (.pattern 0xBF800000) = some (-1) := by decide +kernel

/-- DqdcDividesBy511, DqacScalesTheDifferences, DqchLooksUpBothIndices, ChromaIndicesAreStable: codes at both ends
of their fields. -/
theorem witness_dequantisers :
    Running (quantised 511 (-16) 15 0 0 15) ∧ (quantised 511 (-16) 15 0 0 15).q = (six 511 (-16) 15 0 0 15).map some ∧
      (sext64 511).toNat ≤ 511 ∧ -16 ≤ (sext64 (-16)).toInt ∧ (sext64 (-16)).toInt ≤ 15 ∧
      (sext64 15).toInt ≤ 15 ∧ (sext64 0).toNat < 16 ∧ (sext64 15).toNat < 16 := by decide

/-- ChromaIndicesAreStable: two indices of a core with a valid table. -/
theorem witness_chromaIndices :
    Running (other.setQChroma 0 15) ∧ (other.setQChroma 0 15).config = other.config ∧
      (other.setQChroma 0 15).q.pb = some 0 ∧ (other.setQChroma 0 15).q.pr = some 15 := by decide +kernel

/-- DequantisersRefuseMisfits: codes just outside their fields. -/
theorem witness_misfits :
    Running (quantised 512 (-17) 16 0 15 16) ∧
      (quantised 512 (-17) 16 0 15 16).q = (six 512 (-17) 16 0 15 16).map some ∧ 511 < (sext64 512).toNat ∧
      ¬ (-16 ≤ (sext64 (-17)).toInt) ∧ ¬ ((sext64 16).toInt ≤ 15) ∧ 15 < (sext64 16).toNat := by decide

/-- LumaQuantiserErrorBounds: the ends of each range. -/
theorem witness_errorBounds :
    (0 : Rat) ≤ 1 ∧ (1 : Rat) ≤ 1 ∧ |(3 / 10 : Rat)| ≤ 3 / 10 ∧ (3 / 10 : Rat) < |(-1 / 2 : Rat)| := by decide +kernel

/-- PackBuildsTheCodeword, PackIsASequenceOfBitFieldCommands, PackAndUnpackAreInverse: a block at both ends of its
fields, which PACK does not refuse. -/
theorem witness_pack :
    Running (quantised 511 (-16) 15 (-1) 15 0) ∧
      (quantised 511 (-16) 15 (-1) 15 0).q = (six 511 (-16) 15 (-1) 15 0).map some ∧
      FieldsFit (six 511 (-16) 15 (-1) 15 0) ∧
      answers (exec .pack (quantised 511 (-16) 15 (-1) 15 0)) (fun t => t.halted = false) = true := by
  unfold FieldsFit
  decide

/-- PackReportsTheFirstMisfit: for each field a block whose first misfit it is, just outside its range. -/
theorem witness_packMisfits :
    Running (quantised 512 16 0 0 0 0) ∧ ¬ (sext64 512).toNat ≤ 511 ∧ (sext64 511).toNat ≤ 511 ∧
      ¬ (-16 ≤ (sext64 (-17)).toInt ∧ (sext64 (-17)).toInt ≤ 15) ∧
      ¬ (-16 ≤ (sext64 16).toInt ∧ (sext64 16).toInt ≤ 15) ∧
      (-16 ≤ (sext64 (-16)).toInt ∧ (sext64 (-16)).toInt ≤ 15) ∧ ¬ (sext64 16).toNat ≤ 15 ∧
      (sext64 15).toNat ≤ 15 ∧ (quantised 511 (-16) 15 0 15 16).q = (six 511 (-16) 15 0 15 16).map some := by decide

/-- UnpackTakesTheFields, PackAndUnpackAreInverse, DecblkIsTotalOnCodewords: a codeword of ones, the last on a core
with a valid table. -/
theorem witness_codeword :
    Running (coded 0xFFFFFFFF) ∧ (coded 0xFFFFFFFF).cw = some 0xFFFFFFFF ∧ Running (other.setCw 0x00421000) ∧
      (other.setCw 0x00421000).cw = some 0x00421000 ∧ (other.setCw 0x00421000).config = other.config := by
  decide +kernel

/-- QuantisedBlocksAlwaysPack: six finite coefficients. -/
theorem witness_quantisedBlocks :
    Running (patterns (coefOf 0x3F800000 0x7F7FFFFF 0xFF7FFFFF 0 0 0)) ∧
      ∀ k, ∃ n, (patterns (coefOf 0x3F800000 0x7F7FFFFF 0xFF7FFFFF 0 0 0)).number (.coef k) = some n ∧
        numberValue n ≠ none := by
  refine ⟨by decide, fun k => ?_⟩
  cases k <;> exact ⟨_, rfl, by decide +kernel⟩

/-- EncblkCompletesInContract: pixels at both ends of the range. -/
theorem witness_encblk :
    Running (patterns (flatRgb 0x3F800000 0x00000000 0x3F000000)) ∧
      ∀ p k, ∃ n x, (patterns (flatRgb 0x3F800000 0x00000000 0x3F000000)).number (.rgb p k) = some n ∧
        numberValue n = some x ∧ 0 ≤ x ∧ x ≤ 1 := by
  have h1 : numberValue (.pattern 0x3F800000) = some 1 := by decide +kernel
  have h0 : numberValue (.pattern 0) = some 0 := by decide +kernel
  have h2 : numberValue (.pattern 0x3F000000) = some (1 / 2) := by decide +kernel
  refine ⟨by decide, fun p k => ?_⟩
  cases k
  · exact ⟨.pattern 0x3F800000, 1, by cases p <;> rfl, h1, by norm_num, le_refl _⟩
  · exact ⟨.pattern 0, 0, by cases p <;> rfl, h0, le_refl _, by norm_num⟩
  · exact ⟨.pattern 0x3F000000, 1 / 2, by cases p <;> rfl, h2, by norm_num, by norm_num⟩

/-- The block of R244's example: all written and in contract but `RGB[2].g`, which is unwritten. -/
def holed : State :=
  patterns (rgbOf .topLeft 0x3F800000 0 0 ++ rgbOf .topRight 0x3F800000 0 0 ++
    [(.rgb .bottomLeft .r, 0), (.rgb .bottomLeft .b, 0)] ++ rgbOf .bottomRight 0 0 0)

/-- CompositeStopsAtTheFirstFault, the general clause: the first two constituents run, the third raises. -/
theorem witness_compositeStops :
    Running holed ∧ (constituents .encblk)[2]? = some (.cscf 2) ∧
      answers (runCommands ((constituents .encblk).take 2) holed)
        (fun t => t.halted = false ∧ t.ypp.topRight.y ≠ none ∧
          answers (exec (.cscf 2) t) (fun u => u.halted = true)) = true := by decide +kernel

/-- R244, the example: `YPP[0]` and `YPP[1]` written, `FAULT.code = UNWRITTEN`, and nothing else changed. -/
theorem witness_compositeExample :
    answers (exec .encblk holed) (fun t => t.fault = 0x05 ∧ t = { holed with fault := 0x05, ypp := t.ypp } ∧
      t.ypp.topLeft.pr ≠ none ∧ t.ypp.topRight.y ≠ none ∧ t.ypp.bottomLeft = State.reset.ypp.bottomLeft ∧
      t.ypp.bottomRight = State.reset.ypp.bottomRight) = true := by decide +kernel

/-- CompositeStopsAtTheFirstFault, the clauses about a pixel: the pixels before pixel 2 in contract and one of its
registers unwritten; for pixel 0, no pixel before it, three registers written and one a NaN. -/
theorem witness_compositePixels :
    (∀ p' : Pixel, p'.index < Pixel.bottomLeft.index → ∀ k, ∃ n x, holed.number (.rgb p' k) = some n ∧
      numberValue n = some x ∧ 0 ≤ x ∧ x ≤ 1) ∧ holed.number (.rgb .bottomLeft .g) = none ∧
    (∀ p' : Pixel, ¬ p'.index < Pixel.topLeft.index) ∧
    (∀ k, (patterns (flatRgb 0x7FC00000 0 0)).number (.rgb .topLeft k) ≠ none) ∧
    (patterns (flatRgb 0x7FC00000 0 0)).number (.rgb .topLeft .r) = some (.pattern 0x7FC00000) ∧
    numberValue (.pattern 0x7FC00000) = none := by
  have h1 : numberValue (.pattern 0x3F800000) = some 1 := by decide +kernel
  have h0 : numberValue (.pattern 0) = some 0 := by decide +kernel
  refine ⟨fun p' h k => ?_, by decide, fun p' => by cases p' <;> decide, fun k => by cases k <;> decide, by decide,
    by decide +kernel⟩
  cases p' <;> simp only [Pixel.index] at h <;> try omega
  all_goals
    cases k
    · exact ⟨.pattern 0x3F800000, 1, rfl, h1, by norm_num, le_refl _⟩
    · exact ⟨.pattern 0, 0, rfl, h0, le_refl _, by norm_num⟩
    · exact ⟨.pattern 0, 0, rfl, h0, le_refl _, by norm_num⟩

/-- CommandsWriteOnlyTheirDestinations, FaultingCommandWritesOnlyFault, UnwrittenSourceRaises,
the DECBLK clause of CompositeStopsAtTheFirstFault: FITSU from reset answers a halted next state. -/
theorem witness_unwritten :
    answers (exec (.fitsu 1) State.reset) (fun t => t.halted = true) = true ∧ ¬ Composite (.fitsu 1) ∧
      Running State.reset ∧ (Instr.fitsu 1).wellFormed = true ∧ .v ∈ reads (.fitsu 1) ∧ Unwritten State.reset .v ∧
      State.reset.cw = none ∧ State.reset.number (.rgb .topLeft .r) = none :=
  ⟨by decide, id, by decide, by decide, by decide, rfl, rfl, rfl⟩

/-- ResultsDependOnlyOnSources: two cores that differ in a register PACK does not read. -/
theorem witness_sources :
    Running (quantised 1 2 3 4 5 6) ∧ (quantised 1 2 3 4 5 6) ≠ (quantised 1 2 3 4 5 6).setV 7 ∧
      (quantised 1 2 3 4 5 6).config.tie = .lowest ∧
      (∀ x ∈ reads .pack, Agree (quantised 1 2 3 4 5 6) ((quantised 1 2 3 4 5 6).setV 7) x) ∧
      answers (exec .pack (quantised 1 2 3 4 5 6)) (fun t => t.halted = false) = true := by
  refine ⟨by decide, by decide +kernel, by decide, fun x hx => ?_, by decide⟩
  simp only [reads, allQ, List.mem_cons, List.not_mem_nil, or_false] at hx
  rcases hx with rfl | rfl | rfl | rfl | rfl | rfl <;> rfl

/-- StepKeepsTheInvariant: a step from a state of the invariant that answers a next state. -/
theorem witness_stepInvariant :
    answers (step (other.issue 0x18000000)) (fun t => t.fault = 0x05) = true ∧ Invariant (other.issue 0x18000000) := by
  refine ⟨by decide +kernel, ?_⟩
  obtain ⟨_, _, _, _, h⟩ := witness_valid
  exact h

/-- BlocksCoverTheTrimmedImage: the last pixel of a 5 by 3 image trimmed to 4 by 2. -/
theorem witness_blocks :
    3 < trimmed 5 ∧ 1 < trimmed 3 ∧ 1 < blockCount (trimmed 5) (trimmed 3) ∧
      pixelPosition (blockPosition (trimmed 5) 1) .bottomRight = (3, 1) := by decide

end Sys2Proof.Tests
end

section
/-! PROOFS of the family 00_scope.md: every step keeps the invariant. A step is a chain of writes and raises, so the
relation `Preserves` between two states is shown once for a write of numbers, once for a change the invariant does not
see and once for a raise of the spec; the shell of a command, the sequence of commands and the host port carry it to a
step. -/

namespace Sys2Proof.Machine

/-! ### What a change of state preserves -/

/-- A change of state from `s` to `t` leaves the configuration and keeps the invariant. -/
def Preserves (s t : State) : Prop := t.config = s.config ∧ (Invariant s → Invariant t)

theorem Preserves.refl (s : State) : Preserves s s := ⟨rfl, id⟩

theorem Preserves.trans {s t u : State} (hst : Preserves s t) (htu : Preserves t u) : Preserves s u :=
  ⟨htu.1.trans hst.1, htu.2 ∘ hst.2⟩

/-- The fields of a state the invariant speaks of. -/
def State.invariantPart (s : State) :
    BitVec 8 × Config × Quad (Rgb (Option Number)) × Quad (Ypp (Option Number)) × Six (Option Number) :=
  (s.fault, s.config, s.rgb, s.ypp, s.coef)

/-- The invariant sees no other field. -/
theorem preserves_of_invariantPart_eq {s t : State} (h : t.invariantPart = s.invariantPart) : Preserves s t := by
  simp only [State.invariantPart, Prod.mk.injEq] at h
  obtain ⟨hfault, hconfig, hrgb, hypp, hcoef⟩ := h
  have hnumber : ∀ n, t.number n = s.number n := by
    rintro (_ | _ | _) <;> simp only [State.number, hrgb, hypp, hcoef]
  refine ⟨hconfig, fun ⟨hlegal, hvalid, hkind⟩ => ⟨?_, hconfig ▸ hvalid, fun n x hx => ?_⟩⟩
  · simpa only [FaultLegal, State.faultCode, State.faultInfo, hfault] using hlegal
  · rw [hconfig]
    exact hkind n x (hnumber n ▸ hx)

/-- Writing a number of the kind `P_NUM` names preserves the invariant (R21). -/
theorem preserves_setNumber {s : State} (n : NumReg) {x : Number}
    (h : Invariant s → Number.ofKind s.config.pnum x) : Preserves s (s.setNumber n x) := by
  refine ⟨State.setNumber_config s n x, fun hs => ?_⟩
  obtain ⟨hlegal, hvalid, hkind⟩ := hs
  refine ⟨?_, ?_, fun k y hy => ?_⟩
  · simpa only [FaultLegal, State.faultCode, State.faultInfo, State.setNumber_fault] using hlegal
  · rwa [State.setNumber_config]
  · rw [State.setNumber_config]
    rw [State.setNumber_number] at hy
    split at hy
    · obtain rfl := Option.some.inj hy
      exact h ⟨hlegal, hvalid, hkind⟩
    · exact hkind k y hy

/-- HostReset preserves the invariant: `FAULT` is 0 and no number is left (R290). -/
theorem preserves_hostReset (s : State) : Preserves s s.hostReset := by
  have hnumber : ∀ n, s.hostReset.number n = none := by
    rintro (⟨p, k⟩ | ⟨p, k⟩ | k)
    · cases p <;> cases k <;> rfl
    · cases p <;> cases k <;> rfl
    · cases k <;> rfl
  refine ⟨rfl, fun ⟨_, hvalid, _⟩ => ⟨?_, hvalid, fun n x hx => ?_⟩⟩
  · simp [FaultLegal, State.faultCode, State.faultInfo]
  · rw [hnumber] at hx
    cases hx

/-! ### The writes of several numbers as writes of one number after another -/

/-- Write numbers one after another. -/
def State.setNumbers (s : State) (l : List (NumReg × Number)) : State :=
  l.foldl (fun t e => t.setNumber e.1 e.2) s

@[simp] theorem State.setNumbers_config (s : State) (l : List (NumReg × Number)) :
    (s.setNumbers l).config = s.config := by
  induction l generalizing s with
  | nil => rfl
  | cons e l ih => exact (ih (s.setNumber e.1 e.2)).trans (State.setNumber_config s e.1 e.2)

/-- Writing numbers of the kind `P_NUM` names preserves the invariant (R21). -/
theorem preserves_setNumbers {s : State} {l : List (NumReg × Number)}
    (h : Invariant s → ∀ e ∈ l, Number.ofKind s.config.pnum e.2) : Preserves s (s.setNumbers l) := by
  refine ⟨s.setNumbers_config l, fun hs => ?_⟩
  replace h := h hs
  induction l generalizing s with
  | nil => exact hs
  | cons e l ih =>
    have hfirst := preserves_setNumber e.1 fun _ => h e List.mem_cons_self
    refine ih (hfirst.2 hs) fun e' he' => ?_
    rw [hfirst.1]
    exact h e' (List.mem_cons_of_mem e he')

theorem setRgb_eq_setNumbers (s : State) (p : Pixel) (x : Rgb Number) :
    s.setRgb p x = s.setNumbers [(.rgb p .r, x.r), (.rgb p .g, x.g), (.rgb p .b, x.b)] := by
  cases p <;> rfl

theorem setYpp_eq_setNumbers (s : State) (p : Pixel) (x : Ypp Number) :
    s.setYpp p x = s.setNumbers [(.ypp p .y, x.y), (.ypp p .pb, x.pb), (.ypp p .pr, x.pr)] := by
  cases p <;> rfl

theorem setSamplesY_eq_setNumbers (s : State) (y : Quad Number) :
    s.setSamplesY y = s.setNumbers [(.ypp .topLeft .y, y.topLeft), (.ypp .topRight .y, y.topRight),
      (.ypp .bottomLeft .y, y.bottomLeft), (.ypp .bottomRight .y, y.bottomRight)] := rfl

theorem setSamplesChroma_eq_setNumbers (s : State) (x : Chroma Number) :
    s.setSamplesChroma x = s.setNumbers [(.ypp .topLeft .pb, x.pb), (.ypp .topLeft .pr, x.pr),
      (.ypp .topRight .pb, x.pb), (.ypp .topRight .pr, x.pr), (.ypp .bottomLeft .pb, x.pb),
      (.ypp .bottomLeft .pr, x.pr), (.ypp .bottomRight .pb, x.pb), (.ypp .bottomRight .pr, x.pr)] := rfl

theorem setCoefA_eq_setNumbers (s : State) (a : Number) : s.setCoefA a = s.setNumbers [(.coef .a, a)] := rfl

theorem setCoefDifferences_eq_setNumbers (s : State) (b c d : Number) :
    s.setCoefDifferences b c d = s.setNumbers [(.coef .b, b), (.coef .c, c), (.coef .d, d)] := rfl

theorem setCoefLuma_eq_setNumbers (s : State) (x : Luma Number) :
    s.setCoefLuma x = s.setNumbers [(.coef .a, x.a), (.coef .b, x.b), (.coef .c, x.c), (.coef .d, x.d)] := rfl

theorem setCoefChroma_eq_setNumbers (s : State) (x : Chroma Number) :
    s.setCoefChroma x = s.setNumbers [(.coef .pb, x.pb), (.coef .pr, x.pr)] := rfl

/-- A finite result is stored as a number of the kind `P_NUM` names (R32). -/
@[simp] theorem ofKind_numberOf (m : PNum) (x : Rat) : Number.ofKind m (numberOf m x) := by
  cases m with
  | exact => trivial
  | binary32 =>
    by_cases h : x = 0
    · simp [numberOf, h, Number.ofKind]
    · simp [numberOf, h, Number.ofKind]

/-- An entry of a valid table is a number of the kind `P_NUM` names (R10, R204). -/
theorem ofKind_valueOf {c : Config} (h : c.Valid) {j : Nat} (hj : j < 16) : Number.ofKind c.pnum (valueOf c j) := by
  have hlen : j < c.chroma.toList.length := by simpa using hj
  have hentry : valueOf c j = c.chroma.toList[j] := by simp [valueOf, List.getD_eq_getElem?_getD, hj]
  rw [hentry]
  exact (h.1 _ (List.getElem_mem hlen)).1

/-! ### The raises of the spec -/

/-- A raise the table of faults allows: `info` is 0 but for an OUT_OF_RANGE, where it is at most 6 (R260). -/
def Raise.Legal (x : Raise) : Prop := x.info.toNat ≤ 6 ∧ (x.info ≠ 0 → x.code = .outOfRange)

theorem legal_of_info_zero (c : FaultCode) : (⟨c, 0⟩ : Raise).Legal := ⟨Nat.zero_le 6, fun h => absurd rfl h⟩

theorem FaultCode.number_le (c : FaultCode) : c.number.toNat ≤ 5 := by cases c <;> decide

/-- A raise of the spec preserves the invariant: the fault it leaves in `FAULT` is legal (R27, R266). -/
theorem preserves_raise (s : State) {x : Raise} (h : x.Legal) : Preserves s (s.raise x) := by
  obtain ⟨hinfo, hcode⟩ := h
  refine ⟨rfl, fun ⟨_, hvalid, hkind⟩ => ⟨?_, hvalid, fun n y hy => hkind n y (by rwa [← s.raise_number x n])⟩⟩
  simp only [FaultLegal, State.raise_faultCode, State.raise_faultInfo]
  exact ⟨x.code.number_le, hinfo, fun h => by rw [hcode h]; rfl⟩

/-- A checked computation answers a value with the property `P`, or raises a fault of the spec. -/
def Sound {α : Type} (P : α → Prop) : Checked α → Prop
  | .ok a => P a
  | .error x => x.Legal

/-- A checked computation raises faults of the spec only. -/
abbrev RaisesLegally {α : Type} (x : Checked α) : Prop := Sound (fun _ => True) x

theorem Sound.pure {α : Type} {P : α → Prop} {a : α} (h : P a) : Sound P (pure a : Checked α) := h

theorem Sound.bind {α β : Type} {P : β → Prop} {x : Checked α} {f : α → Checked β} (hx : RaisesLegally x)
    (hf : ∀ a, x = .ok a → Sound P (f a)) : Sound P (x >>= f) := by
  cases x with
  | ok a => exact hf a rfl
  | error e => exact hx

theorem raisesLegally_pure {α : Type} (a : α) : RaisesLegally (pure a : Checked α) := trivial

theorem raisesLegally_source {α : Type} (x : Option α) : RaisesLegally (source x) := by
  cases x with
  | some a => trivial
  | none => exact legal_of_info_zero _

theorem raisesLegally_finite (x : Number) : RaisesLegally (finite x) := by
  unfold finite
  split
  · trivial
  · exact legal_of_info_zero _

theorem raisesLegally_computed {α : Type} (x : Option α) : RaisesLegally (computed x) := by
  cases x with
  | some a => trivial
  | none => exact legal_of_info_zero _

theorem raisesLegally_pixel (idx : Byte) : RaisesLegally (pixel idx) := by
  unfold pixel
  split
  · trivial
  · exact legal_of_info_zero _

theorem raisesLegally_precondition (c : Bool) : RaisesLegally (ensure c ⟨.precondition, 0⟩) := by
  cases c with
  | true => trivial
  | false => exact legal_of_info_zero _

/-- A fits test raises OUT_OF_RANGE with its `info`, which the spec keeps to 6 at most (R261). -/
theorem raisesLegally_inRange (fits : Bool) {info : BitVec 4} (h : info.toNat ≤ 6) :
    RaisesLegally (inRange fits info) := by
  cases fits with
  | true => trivial
  | false => exact ⟨h, fun _ => rfl⟩

theorem inRange_eq_ok {fits : Bool} {info : BitVec 4} {u : Unit} : inRange fits info = .ok u ↔ fits = true :=
  ensure_eq_ok

/-- A code that passes the 4-bit fits test is an index of the table (R201). -/
theorem toNat_lt_of_inRange {x : Word64} {u : Unit} (h : inRange (fitsUnsigned (u64 x) 4) 0 = .ok u) :
    x.toNat < 16 := by
  rw [inRange_eq_ok, u64, fitsUnsigned_natCast, decide_eq_true_iff] at h
  exact h

theorem raisesLegally_sourceRgb (x : Rgb (Option Number)) : RaisesLegally (sourceRgb x) :=
  .bind (raisesLegally_source _) fun _ _ => .bind (raisesLegally_source _) fun _ _ =>
    .bind (raisesLegally_source _) fun _ _ => raisesLegally_pure _

theorem raisesLegally_finiteRgb (x : Rgb Number) : RaisesLegally (finiteRgb x) :=
  .bind (raisesLegally_finite _) fun _ _ => .bind (raisesLegally_finite _) fun _ _ =>
    .bind (raisesLegally_finite _) fun _ _ => raisesLegally_pure _

theorem raisesLegally_sourceYpp (x : Ypp (Option Number)) : RaisesLegally (sourceYpp x) :=
  .bind (raisesLegally_source _) fun _ _ => .bind (raisesLegally_source _) fun _ _ =>
    .bind (raisesLegally_source _) fun _ _ => raisesLegally_pure _

theorem raisesLegally_finiteYpp (x : Ypp Number) : RaisesLegally (finiteYpp x) :=
  .bind (raisesLegally_finite _) fun _ _ => .bind (raisesLegally_finite _) fun _ _ =>
    .bind (raisesLegally_finite _) fun _ _ => raisesLegally_pure _

theorem raisesLegally_sourceQuad {α : Type} (x : Quad (Option α)) : RaisesLegally (sourceQuad x) :=
  .bind (raisesLegally_source _) fun _ _ => .bind (raisesLegally_source _) fun _ _ =>
    .bind (raisesLegally_source _) fun _ _ => .bind (raisesLegally_source _) fun _ _ => raisesLegally_pure _

theorem raisesLegally_finiteQuad (x : Quad Number) : RaisesLegally (finiteQuad x) :=
  .bind (raisesLegally_finite _) fun _ _ => .bind (raisesLegally_finite _) fun _ _ =>
    .bind (raisesLegally_finite _) fun _ _ => .bind (raisesLegally_finite _) fun _ _ => raisesLegally_pure _

theorem raisesLegally_sourceLuma (x : Six (Option Number)) : RaisesLegally (sourceLuma x) :=
  .bind (raisesLegally_source _) fun _ _ => .bind (raisesLegally_source _) fun _ _ =>
    .bind (raisesLegally_source _) fun _ _ => .bind (raisesLegally_source _) fun _ _ => raisesLegally_pure _

theorem raisesLegally_finiteLuma (x : Luma Number) : RaisesLegally (finiteLuma x) :=
  .bind (raisesLegally_finite _) fun _ _ => .bind (raisesLegally_finite _) fun _ _ =>
    .bind (raisesLegally_finite _) fun _ _ => .bind (raisesLegally_finite _) fun _ _ => raisesLegally_pure _

theorem raisesLegally_sourceChroma {α : Type} (x : Six (Option α)) : RaisesLegally (sourceChroma x) :=
  .bind (raisesLegally_source _) fun _ _ => .bind (raisesLegally_source _) fun _ _ => raisesLegally_pure _

theorem raisesLegally_finiteChroma (x : Chroma Number) : RaisesLegally (finiteChroma x) :=
  .bind (raisesLegally_finite _) fun _ _ => .bind (raisesLegally_finite _) fun _ _ => raisesLegally_pure _

theorem raisesLegally_sourceSix {α : Type} (x : Six (Option α)) : RaisesLegally (sourceSix x) :=
  .bind (raisesLegally_source _) fun _ _ => .bind (raisesLegally_source _) fun _ _ =>
    .bind (raisesLegally_source _) fun _ _ => .bind (raisesLegally_source _) fun _ _ =>
      .bind (raisesLegally_source _) fun _ _ => .bind (raisesLegally_source _) fun _ _ => raisesLegally_pure _

/-- The six ordinals of the fits checks are 1 to 6 (R221). -/
theorem raisesLegally_fieldsFit (q : Six Word64) : RaisesLegally (fieldsFit q) :=
  .bind (raisesLegally_inRange _ (by decide)) fun _ _ => .bind (raisesLegally_inRange _ (by decide)) fun _ _ =>
    .bind (raisesLegally_inRange _ (by decide)) fun _ _ => .bind (raisesLegally_inRange _ (by decide)) fun _ _ =>
      .bind (raisesLegally_inRange _ (by decide)) fun _ _ => raisesLegally_inRange _ (by decide)

/-! ### Commands -/

/-- Every next state an answer holds preserves the invariant. -/
def AnswerPreserves (s : State) (o : Answer) : Prop := ∀ t, o = .next t → Preserves s t

theorem answerPreserves_next {s t : State} (h : Preserves s t) : AnswerPreserves s (.next t) := by
  rintro _ ⟨⟩
  exact h

theorem answerPreserves_refused (s : State) (r : Refusal) : AnswerPreserves s (.refused r) := by
  rintro _ ⟨⟩

/-- A command whose body is sound preserves the invariant. -/
theorem answerPreserves_command {s : State} {body : Checked State} (h : Sound (Preserves s) body) :
    AnswerPreserves s (command s body) := by
  rcases command_cases s body with ⟨_, he⟩ | ⟨_, t, rfl, he⟩ | ⟨_, x, rfl, he⟩
  · exact he ▸ answerPreserves_next (.refl s)
  · exact he ▸ answerPreserves_next h
  · exact he ▸ answerPreserves_next (preserves_raise s h)

theorem answerPreserves_andThen {s : State} {o : Answer} {f : State → Answer} (ho : AnswerPreserves s o)
    (hf : ∀ t, AnswerPreserves t (f t)) : AnswerPreserves s (andThen o f) := by
  intro u hu
  cases o with
  | next t => exact (ho t rfl).trans (hf t u hu)
  | fault r => cases hu
  | refused r => cases hu

theorem answerPreserves_runCommands {cs : List Instr} (h : ∀ c ∈ cs, ∀ s, AnswerPreserves s (exec c s)) (s : State) :
    AnswerPreserves s (runCommands cs s) := by
  induction cs generalizing s with
  | nil => exact answerPreserves_next (.refl s)
  | cons c cs ih =>
    rw [runCommands_cons]
    exact answerPreserves_andThen (h c List.mem_cons_self s) (ih fun d hd => h d (List.mem_cons_of_mem c hd))

section commands
variable (s : State)

theorem execFitsu_preserves (width : Byte) : AnswerPreserves s (execFitsu width s) :=
  answerPreserves_command <| .bind (raisesLegally_source _) fun _ _ =>
    .bind (raisesLegally_precondition _) fun _ _ => .pure (preserves_of_invariantPart_eq rfl)

theorem execFitss_preserves (width : Byte) : AnswerPreserves s (execFitss width s) :=
  answerPreserves_command <| .bind (raisesLegally_source _) fun _ _ =>
    .bind (raisesLegally_precondition _) fun _ _ => .pure (preserves_of_invariantPart_eq rfl)

theorem execGetu_preserves (width lsb : Byte) : AnswerPreserves s (execGetu width lsb s) :=
  answerPreserves_command <| .bind (raisesLegally_source _) fun _ _ =>
    .bind (raisesLegally_precondition _) fun _ _ => .pure (preserves_of_invariantPart_eq rfl)

theorem execGets_preserves (width lsb : Byte) : AnswerPreserves s (execGets width lsb s) :=
  answerPreserves_command <| .bind (raisesLegally_source _) fun _ _ =>
    .bind (raisesLegally_precondition _) fun _ _ => .pure (preserves_of_invariantPart_eq rfl)

theorem execSetu_preserves (width lsb : Byte) : AnswerPreserves s (execSetu width lsb s) :=
  answerPreserves_command <| .bind (raisesLegally_source _) fun _ _ => .bind (raisesLegally_source _) fun _ _ =>
    .bind (raisesLegally_precondition _) fun _ _ => .bind (raisesLegally_inRange _ (by decide)) fun _ _ =>
      .pure (preserves_of_invariantPart_eq rfl)

theorem execSets_preserves (width lsb : Byte) : AnswerPreserves s (execSets width lsb s) :=
  answerPreserves_command <| .bind (raisesLegally_source _) fun _ _ => .bind (raisesLegally_source _) fun _ _ =>
    .bind (raisesLegally_precondition _) fun _ _ => .bind (raisesLegally_inRange _ (by decide)) fun _ _ =>
      .pure (preserves_of_invariantPart_eq rfl)

theorem execCscf_preserves (idx : Byte) : AnswerPreserves s (execCscf idx s) :=
  answerPreserves_command <| .bind (raisesLegally_pixel _) fun p _ => .bind (raisesLegally_sourceRgb _) fun _ _ =>
    .bind (raisesLegally_finiteRgb _) fun _ _ => .bind (raisesLegally_computed _) fun z _ => .pure <| by
      rw [setYpp_eq_setNumbers]
      exact preserves_setNumbers fun _ => by simp [Ypp.map]

theorem execCsci_preserves (idx : Byte) : AnswerPreserves s (execCsci idx s) :=
  answerPreserves_command <| .bind (raisesLegally_pixel _) fun p _ => .bind (raisesLegally_sourceYpp _) fun _ _ =>
    .bind (raisesLegally_finiteYpp _) fun _ _ => .bind (raisesLegally_computed _) fun z _ => .pure <| by
      rw [setRgb_eq_setNumbers]
      exact preserves_setNumbers fun _ => by simp [Rgb.map]

theorem execBtf_preserves : AnswerPreserves s (execBtf s) :=
  answerPreserves_command <| .bind (raisesLegally_sourceQuad _) fun _ _ =>
    .bind (raisesLegally_finiteQuad _) fun _ _ => .bind (raisesLegally_computed _) fun z _ => .pure <| by
      rw [setCoefLuma_eq_setNumbers]
      exact preserves_setNumbers fun _ => by simp [Luma.map]

theorem execBti_preserves : AnswerPreserves s (execBti s) :=
  answerPreserves_command <| .bind (raisesLegally_sourceLuma _) fun _ _ =>
    .bind (raisesLegally_finiteLuma _) fun _ _ => .bind (raisesLegally_computed _) fun z _ => .pure <| by
      rw [setSamplesY_eq_setNumbers]
      exact preserves_setNumbers fun _ => by simp [Quad.map]

theorem execCavg_preserves : AnswerPreserves s (execCavg s) :=
  answerPreserves_command <| .bind (raisesLegally_sourceQuad _) fun _ _ =>
    .bind (raisesLegally_sourceQuad _) fun _ _ => .bind (raisesLegally_finiteQuad _) fun _ _ =>
      .bind (raisesLegally_finiteQuad _) fun _ _ => .bind (raisesLegally_computed _) fun _ _ =>
        .bind (raisesLegally_computed _) fun _ _ => .pure <| by
          rw [setCoefChroma_eq_setNumbers]
          exact preserves_setNumbers fun _ => by simp

/-- CREP copies numbers that stand in `COEF`, so their kind is the right one already (R174). -/
theorem execCrep_preserves : AnswerPreserves s (execCrep s) :=
  answerPreserves_command <| .bind (raisesLegally_sourceChroma _) fun x hx =>
    .bind (raisesLegally_finiteChroma _) fun _ _ => .pure <| by
      obtain ⟨hpb, hpr⟩ := sourceChroma_eq_ok.mp hx
      rw [setSamplesChroma_eq_setNumbers]
      refine preserves_setNumbers fun ⟨_, _, hkind⟩ => ?_
      have hpb' := hkind (.coef .pb) x.pb hpb
      have hpr' := hkind (.coef .pr) x.pr hpr
      simp [hpb', hpr']

theorem execQdc_preserves : AnswerPreserves s (execQdc s) :=
  answerPreserves_command <| .bind (raisesLegally_source _) fun _ _ => .bind (raisesLegally_finite _) fun _ _ =>
    .bind (raisesLegally_computed _) fun _ _ => .pure (preserves_of_invariantPart_eq rfl)

theorem execQac_preserves : AnswerPreserves s (execQac s) :=
  answerPreserves_command <| .bind (raisesLegally_source _) fun _ _ => .bind (raisesLegally_source _) fun _ _ =>
    .bind (raisesLegally_source _) fun _ _ => .bind (raisesLegally_finite _) fun _ _ =>
      .bind (raisesLegally_finite _) fun _ _ => .bind (raisesLegally_finite _) fun _ _ =>
        .bind (raisesLegally_computed _) fun _ _ => .bind (raisesLegally_computed _) fun _ _ =>
          .bind (raisesLegally_computed _) fun _ _ => .pure (preserves_of_invariantPart_eq rfl)

theorem execQch_preserves : AnswerPreserves s (execQch s) :=
  answerPreserves_command <| .bind (raisesLegally_sourceChroma _) fun _ _ =>
    .bind (raisesLegally_finiteChroma _) fun _ _ => .pure (preserves_of_invariantPart_eq rfl)

theorem execDqdc_preserves : AnswerPreserves s (execDqdc s) :=
  answerPreserves_command <| .bind (raisesLegally_source _) fun _ _ =>
    .bind (raisesLegally_inRange _ (by decide)) fun _ _ => .bind (raisesLegally_computed _) fun _ _ => .pure <| by
      rw [setCoefA_eq_setNumbers]
      exact preserves_setNumbers fun _ => by simp

theorem execDqac_preserves : AnswerPreserves s (execDqac s) :=
  answerPreserves_command <| .bind (raisesLegally_source _) fun _ _ => .bind (raisesLegally_source _) fun _ _ =>
    .bind (raisesLegally_source _) fun _ _ => .bind (raisesLegally_inRange _ (by decide)) fun _ _ =>
      .bind (raisesLegally_inRange _ (by decide)) fun _ _ => .bind (raisesLegally_inRange _ (by decide)) fun _ _ =>
        .bind (raisesLegally_computed _) fun _ _ => .bind (raisesLegally_computed _) fun _ _ =>
          .bind (raisesLegally_computed _) fun _ _ => .pure <| by
            rw [setCoefDifferences_eq_setNumbers]
            exact preserves_setNumbers fun _ => by simp

/-- DQCH copies entries of the table, and those of a valid table are of the kind `P_NUM` names (R201, R10). -/
theorem execDqch_preserves : AnswerPreserves s (execDqch s) :=
  answerPreserves_command <| .bind (raisesLegally_sourceChroma _) fun x _ =>
    .bind (raisesLegally_inRange _ (by decide)) fun _ hpb => .bind (raisesLegally_inRange _ (by decide)) fun _ hpr =>
      .pure <| by
        rw [setCoefChroma_eq_setNumbers]
        refine preserves_setNumbers fun ⟨_, hvalid, _⟩ => ?_
        have hpb' := ofKind_valueOf hvalid (toNat_lt_of_inRange hpb)
        have hpr' := ofKind_valueOf hvalid (toNat_lt_of_inRange hpr)
        simp [hpb', hpr']

theorem execPack_preserves : AnswerPreserves s (execPack s) :=
  answerPreserves_command <| .bind (raisesLegally_sourceSix _) fun _ _ =>
    .bind (raisesLegally_fieldsFit _) fun _ _ => .pure (preserves_of_invariantPart_eq rfl)

theorem execUnpack_preserves : AnswerPreserves s (execUnpack s) :=
  answerPreserves_command <| .bind (raisesLegally_source _) fun _ _ => .pure (preserves_of_invariantPart_eq rfl)

end commands

/-- Every single-stage command preserves the invariant. -/
theorem exec_preserves_single {i : Instr} (hi : ¬ Composite i) (s : State) : AnswerPreserves s (exec i s) := by
  cases i with
  | fitsu width => exact execFitsu_preserves s width
  | fitss width => exact execFitss_preserves s width
  | getu width lsb => exact execGetu_preserves s width lsb
  | gets width lsb => exact execGets_preserves s width lsb
  | setu width lsb => exact execSetu_preserves s width lsb
  | sets width lsb => exact execSets_preserves s width lsb
  | cscf idx => exact execCscf_preserves s idx
  | csci idx => exact execCsci_preserves s idx
  | btf => exact execBtf_preserves s
  | bti => exact execBti_preserves s
  | cavg => exact execCavg_preserves s
  | crep => exact execCrep_preserves s
  | qdc => exact execQdc_preserves s
  | qac => exact execQac_preserves s
  | qch => exact execQch_preserves s
  | dqdc => exact execDqdc_preserves s
  | dqac => exact execDqac_preserves s
  | dqch => exact execDqch_preserves s
  | pack => exact execPack_preserves s
  | unpack => exact execUnpack_preserves s
  | encblk => exact absurd trivial hi
  | decblk => exact absurd trivial hi

/-- Every command preserves the invariant; a composite because its constituents do (R244). -/
theorem exec_preserves (i : Instr) (s : State) : AnswerPreserves s (exec i s) := by
  by_cases hi : Composite i
  · rw [exec_composite hi]
    exact answerPreserves_runCommands
      (fun c hc => exec_preserves_single (not_composite_of_mem_constituents hc)) s
  · exact exec_preserves_single hi s

/-! ### The host port and the step -/

theorem writeBits_preserves {s : State} {w : Nat} (v : HostData) {f : BitVec w → State}
    (h : ∀ x, Preserves s (f x)) : AnswerPreserves s (writeBits w v f) := by
  cases v with
  | word x => exact answerPreserves_next (h _)
  | rational q => exact answerPreserves_refused s _

/-- A host value that a numeric register takes is of the kind `P_NUM` names (R32). -/
theorem writeNumber_preserves {s : State} {m : PNum} (v : HostData) {f : Number → State}
    (h : ∀ x, Number.ofKind m x → Preserves s (f x)) : AnswerPreserves s (writeNumber m v f) := by
  cases m with
  | binary32 =>
    cases v with
    | word x => exact answerPreserves_next (h _ trivial)
    | rational q => exact answerPreserves_refused s _
  | exact =>
    cases v with
    | word x => exact answerPreserves_refused s _
    | rational q => exact answerPreserves_next (h _ trivial)

theorem hostWrite_preserves (n : Byte) (v : HostData) (s : State) : AnswerPreserves s (hostWrite n v s) := by
  have hkept : AnswerPreserves s (.next s) := answerPreserves_next (.refl s)
  unfold hostWrite
  split
  case isTrue => exact hkept
  case isFalse =>
    split
    case h_1 x _ => exact writeNumber_preserves v fun _ hx => preserves_setNumber x fun _ => hx
    case h_2 | h_3 | h_4 | h_5 => exact writeBits_preserves v fun _ => preserves_of_invariantPart_eq rfl
    case h_6 | h_7 | h_8 | h_9 | h_10 => exact hkept

theorem hostCommand_preserves (word : Word32) (s : State) : AnswerPreserves s (hostCommand word s) := by
  unfold hostCommand
  split
  · exact exec_preserves _ s
  · exact answerPreserves_command (legal_of_info_zero .illegalCmd)

/-- Every action of the host preserves the invariant (R31). -/
theorem hostAction_preserves (a : HostAction) (s : State) : AnswerPreserves s (hostAction a s) := by
  cases a with
  | write n v => exact hostWrite_preserves n v s
  | read n => exact answerPreserves_next (preserves_of_invariantPart_eq rfl)
  | command word => exact hostCommand_preserves word s
  | reset => exact answerPreserves_next (preserves_hostReset s)

/-- Every step preserves the invariant: taking an action off the host's list does, and so does the action. -/
theorem step_preserves (s : State) : AnswerPreserves s (step s) := by
  unfold step nextAction
  split
  case h_1 => exact answerPreserves_next (.refl s)
  case h_2 a rest _ =>
    have htaken : Preserves s { s with pending := rest } := preserves_of_invariantPart_eq rfl
    exact fun t ht => htaken.trans (hostAction_preserves a _ t ht)

end Sys2Proof.Machine

namespace Sys2Proof.Proofs

/-- Settles O57: a step is one action of the host, and each preserves the invariant. -/
theorem stepKeepsTheInvariant : Obligations.StepKeepsTheInvariant := by
  unfold Obligations.StepKeepsTheInvariant
  exact Machine.step_preserves

end Sys2Proof.Proofs
end

section
/-! PROOFS of the family 10_state.md, first part: the host port. What decoding a command's own word gives (R73, R78),
the table of register numbers (R30), what HostWrite and HostRead do (R31, R32), and the state after reset (R290). -/

namespace Sys2Proof.Machine

/-! ### Decoding, as far as a step needs it -/

theorem decodeZ_wellFormed {i j : Instr} {f : Fields} (hi : i.wellFormed = true) (h : decodeZ i f = .ok j) :
    j.wellFormed = true := by
  unfold decodeZ at h
  split at h
  · cases h; exact hi
  · cases h

theorem decodeF_wellFormed {mk : Byte → Instr} {f : Fields} {j : Instr} (hmk : ∀ width, (mk width).wellFormed = true)
    (h : decodeF mk f = .ok j) : j.wellFormed = true := by
  unfold decodeF at h
  split at h
  · cases h; exact hmk _
  · cases h

theorem decodeB_wellFormed {mk : Byte → Byte → Instr} {f : Fields} {j : Instr}
    (hmk : ∀ width lsb, (mk width lsb).wellFormed = true) (h : decodeB mk f = .ok j) : j.wellFormed = true := by
  unfold decodeB at h
  split at h
  · cases h; exact hmk _ _
  · cases h

/-- Format X tests the pixel index itself (R78 (c)). -/
theorem decodeX_wellFormed {mk : Byte → Instr} {f : Fields} {j : Instr}
    (hmk : ∀ idx : Byte, idx.toNat ≤ 3 → (mk idx).wellFormed = true) (h : decodeX mk f = .ok j) :
    j.wellFormed = true := by
  unfold decodeX at h
  split at h
  · split at h
    · rename_i hidx
      cases h
      exact hmk _ hidx
    · cases h
  · cases h

/-- A word decodes to well-formed commands only (R78). -/
theorem wellFormed_of_decode {w : Word32} {i : Instr} (h : decode w = .ok i) : i.wellFormed = true := by
  unfold decode at h
  dsimp only at h
  split at h
  case h_1 | h_2 => exact decodeF_wellFormed (fun _ => rfl) h
  case h_3 | h_4 | h_5 | h_6 => exact decodeB_wellFormed (fun _ _ => rfl) h
  case h_7 => exact decodeX_wellFormed (mk := .cscf) (fun _ hidx => decide_eq_true hidx) h
  case h_8 => exact decodeX_wellFormed (mk := .csci) (fun _ hidx => decide_eq_true hidx) h
  case h_23 => cases h
  all_goals exact decodeZ_wellFormed rfl h

/-- The word of a well-formed command decodes to it (R73, R76). -/
theorem decode_encode {i : Instr} (h : i.wellFormed = true) : decode (encode i) = .ok i := by
  cases i
  case cscf idx | csci idx =>
    have hidx : idx.toNat ≤ 3 := of_decide_eq_true h
    simp [decode, encode, fieldsOf_wordOf, decodeX, hidx]
  all_goals simp [decode, encode, fieldsOf_wordOf, decodeF, decodeB, decodeZ]

theorem hostCommand_of_decode {w : Word32} {i : Instr} (h : decode w = .ok i) (s : State) :
    hostCommand w s = exec i s := by
  simp only [hostCommand, h]

theorem step_of_pending {s : State} {a : HostAction} {rest : List HostAction} (h : s.pending = a :: rest) :
    step s = hostAction a { s with pending := rest } := by
  simp only [step, nextAction, h]

/-! ### The register numbers -/

/-- The unassigned numbers (R30). -/
theorem hostReg_eq_none_iff (n : Byte) : hostReg n = none ↔
    ¬ (n.toNat ≤ 0x05 ∨ (0x10 ≤ n.toNat ∧ n.toNat ≤ 0x1B) ∨ (0x20 ≤ n.toNat ∧ n.toNat ≤ 0x2B) ∨
      (0x30 ≤ n.toNat ∧ n.toNat ≤ 0x35) ∨ (0x38 ≤ n.toNat ∧ n.toNat ≤ 0x3D) ∨
      (0x40 ≤ n.toNat ∧ n.toNat ≤ 0x4F)) := by
  unfold hostReg
  simp only [ite_eq_iff, reduceCtorEq, and_false, false_or, and_true]
  omega

theorem hostReg_chroma {j : Nat} (h : j ≤ 15) : hostReg (BitVec.ofNat 8 (0x40 + j)) = some (.chroma j) := by
  revert j
  decide

/-! ### HostWrite -/

section hostWrite
variable {s : State} {n : Byte}

theorem hostWrite_num (hs : Running s) {k : NumReg} (h : hostReg n = some (.data (.num k))) (v : HostData) :
    hostWrite n v s = writeNumber s.config.pnum v (s.setNumber k) := by
  simp [hostWrite, hs, h]

theorem hostWrite_q (hs : Running s) {k : Part} (h : hostReg n = some (.data (.q k))) (v : HostData) :
    hostWrite n v s = writeBits 64 v (s.setQ k) := by
  simp [hostWrite, hs, h]

theorem hostWrite_v (hs : Running s) (h : hostReg n = some (.data .v)) (v : HostData) :
    hostWrite n v s = writeBits 64 v s.setV := by
  simp [hostWrite, hs, h]

theorem hostWrite_w (hs : Running s) (h : hostReg n = some (.data .w)) (v : HostData) :
    hostWrite n v s = writeBits 64 v s.setW := by
  simp [hostWrite, hs, h]

theorem hostWrite_cw (hs : Running s) (h : hostReg n = some (.data .cw)) (v : HostData) :
    hostWrite n v s = writeBits 32 v s.setCw := by
  simp [hostWrite, hs, h]

/-- A read-only or an unassigned number takes no write (R31). -/
theorem hostWrite_readOnly (h : hostReg n = none ∨ hostReg n = some (.data .r) ∨ hostReg n = some (.data .t) ∨
    hostReg n = some .fault ∨ ∃ j, hostReg n = some (.chroma j)) (v : HostData) : hostWrite n v s = .next s := by
  rcases h with h | h | h | h | ⟨j, h⟩ <;> simp [hostWrite, h]

/-- A 64-bit register takes a host word whole (R31). -/
theorem writeBits_word64 (x : Word64) (f : Word64 → State) : writeBits 64 (.word x) f = .next (f x) := by
  rw [writeBits, BitVec.setWidth_eq]

/-- A register of bits refuses a rational (R32). -/
theorem writeBits_cases (w : Nat) (v : HostData) (f : BitVec w → State) :
    (∃ t, writeBits w v f = .next t) ∨
      (writeBits w v f = .refused .hostValueOfOtherKind ∧ ∃ q, v = .rational q) := by
  cases v with
  | word x => exact .inl ⟨_, rfl⟩
  | rational q => exact .inr ⟨rfl, q, rfl⟩

/-- A numeric register refuses a value of the kind that `P_NUM` does not name (R32). -/
theorem writeNumber_cases (m : PNum) (v : HostData) (f : Number → State) :
    (∃ t, writeNumber m v f = .next t) ∨
      (writeNumber m v f = .refused .hostValueOfOtherKind ∧
        ((m = .binary32 ∧ ∃ q, v = .rational q) ∨ (m = .exact ∧ ∃ x, v = .word x))) := by
  cases m with
  | binary32 =>
    cases v with
    | word x => exact .inl ⟨_, rfl⟩
    | rational q => exact .inr ⟨rfl, .inl ⟨rfl, q, rfl⟩⟩
  | exact =>
    cases v with
    | word x => exact .inr ⟨rfl, .inr ⟨rfl, x, rfl⟩⟩
    | rational q => exact .inl ⟨_, rfl⟩

/-- A HostWrite of a value that fits its register answers a next state; any other is refused on a running core at
most (log 12). -/
theorem hostWrite_cases (n : Byte) (v : HostData) (s : State) :
    (∃ t, hostWrite n v s = .next t) ∨
      (hostWrite n v s = .refused .hostValueOfOtherKind ∧ Running s ∧
        ¬ ActionFits s.config.pnum (.write n v)) := by
  unfold hostWrite
  split
  case isTrue => exact .inl ⟨s, rfl⟩
  case isFalse hs =>
    replace hs : Running s := Bool.eq_false_of_not_eq_true hs
    split
    case h_1 k hn =>
      refine (writeNumber_cases s.config.pnum v (s.setNumber k)).imp_right ?_
      rintro ⟨he, ⟨hm, q, rfl⟩ | ⟨hm, x, rfl⟩⟩ <;> exact ⟨he, hs, by simp [ActionFits, hn, hm]⟩
    case h_2 | h_3 | h_4 | h_5 =>
      refine (writeBits_cases _ v _).imp_right ?_
      rintro ⟨he, q, rfl⟩
      exact ⟨he, hs, by simp [ActionFits, *]⟩
    case h_6 | h_7 | h_8 | h_9 | h_10 => exact .inl ⟨s, rfl⟩

end hostWrite

/-- A HostCommand always answers a next state (R74). -/
theorem hostCommand_next (w : Word32) (s : State) : ∃ t, hostCommand w s = .next t := by
  unfold hostCommand
  split
  · exact exec_next _ s
  · exact command_next s _

/-! ### HostRead -/

theorem valueOf_of_getElem? {c : Config} {j : Nat} {x : Number} (h : c.chroma.toList[j]? = some x) :
    valueOf c j = x := by
  rw [valueOf, List.getD_eq_getElem?_getD, h, Option.getD_some]

/-! ### The state after reset -/

theorem number_reset (n : NumReg) : State.reset.number n = none := by
  rcases n with ⟨p, k⟩ | ⟨p, k⟩ | k
  · cases p <;> cases k <;> rfl
  · cases p <;> cases k <;> rfl
  · cases k <;> rfl

theorem hardware_valid : Config.hardware.Valid := by
  refine ⟨?_, by decide +kernel⟩
  have hfinite : ∀ x ∈ Config.hardware.chroma.toList, numberValue x ≠ none := by decide +kernel
  have hpattern : ∀ x ∈ Config.hardware.chroma.toList, ∃ p, x = .pattern p := by
    simp [Config.hardware, Config.defaultChroma]
  intro x hx
  obtain ⟨p, rfl⟩ := hpattern x hx
  exact ⟨trivial, hfinite _ hx⟩

end Sys2Proof.Machine

namespace Sys2Proof.Proofs

open Machine

/-- Settles O6: taking an action off the list does it, a decoded word runs its command, and `decode_encode`. -/
theorem stepRunsTheDecodedCommand : Obligations.StepRunsTheDecodedCommand := by
  unfold Obligations.StepRunsTheDecodedCommand
  refine ⟨fun s w rest i hp hd => ⟨wellFormed_of_decode hd, ?_⟩, fun s a rest hp => step_of_pending hp,
    fun s hp => ?_, fun s i hi => ?_⟩
  · rw [step_of_pending hp]
    exact hostCommand_of_decode hd _
  · simp only [step, nextAction, hp]
  · have hword : BitVec.ofNat 32 ((encode i).toNat % 2 ^ 32) = encode i := by
      rw [Nat.mod_eq_of_lt (encode i).isLt, BitVec.ofNat_toNat, BitVec.setWidth_eq]
    show hostCommand (BitVec.ofNat 32 ((encode i).toNat % 2 ^ 32)) s = exec i s
    rw [hword]
    exact hostCommand_of_decode (decode_encode hi) s

/-- Settles O9: each number of the table by evaluation, the unassigned ones by `hostReg_eq_none_iff`. -/
theorem hostRegisterNumbers : Obligations.HostRegisterNumbers := by
  unfold Obligations.HostRegisterNumbers
  refine ⟨rfl, rfl, rfl, rfl, rfl, rfl, fun p k => ?_, fun p k => ?_, fun k => ?_, fun k => ?_,
    fun j hj => hostReg_chroma hj, hostReg_eq_none_iff⟩
  · cases p <;> cases k <;> rfl
  · cases p <;> cases k <;> rfl
  · cases k <;> rfl
  · cases k <;> rfl

/-- Settles O10: by the register the number names; the writes of one register leave the others. -/
theorem hostWriteSetsOneRegister : Obligations.HostWriteSetsOneRegister := by
  unfold Obligations.HostWriteSetsOneRegister
  intro s hs
  refine ⟨fun x => ?_, fun x => ?_, fun x => hostWrite_cw (n := 0x04) hs rfl _, fun n k x hn => ?_,
    fun n k x hn hm => ?_, fun n k x hn hm => ?_, fun n v hn => hostWrite_readOnly hn v⟩
  · exact (hostWrite_v (n := 0x00) hs rfl _).trans (writeBits_word64 x s.setV)
  · exact (hostWrite_w (n := 0x01) hs rfl _).trans (writeBits_word64 x s.setW)
  · refine ⟨s.setQ k x, ?_, q_setQ_same s k x, fun y hy => agree_setQ s x hy, rfl⟩
    exact (hostWrite_q hs hn _).trans (writeBits_word64 x (s.setQ k))
  · refine ⟨s.setNumber k (.pattern (x.setWidth 32)), ?_, number_setNumber_same s k _,
      fun y hy => agree_setNumber s _ hy, by cases k <;> rfl⟩
    exact (hostWrite_num hs hn _).trans (by rw [hm, writeNumber])
  · refine ⟨s.setNumber k (.rational x), ?_, number_setNumber_same s k _, fun y hy => agree_setNumber s _ hy,
      by cases k <;> rfl⟩
    exact (hostWrite_num hs hn _).trans (by rw [hm, writeNumber])

/-- Settles O11: the answer is `hostReadValue`, read off for each register a number can name. -/
theorem hostReadReturnsTheRegister : Obligations.HostReadReturnsTheRegister := by
  unfold Obligations.HostReadReturnsTheRegister
  intro s n
  have hsame : SameCore s ((s.setAnswer (hostReadValue s n)).drawn 1) :=
    ⟨fun x => by rcases x with (_ | _ | _) | _ | _ | _ | _ | _ | _ <;> rfl, rfl, rfl⟩
  refine ⟨_, hostReadValue s n, rfl, rfl, hsame, rfl, ?_⟩
  unfold hostReadValue
  refine ⟨fun x hn hx => ?_, fun x hn hx => ?_, fun x hn hx => ?_, fun x hn hx => ?_, fun x hn hx => ?_, fun hn => ?_,
    fun k x hn hx => ?_, fun k x hn hx => ?_, fun k x hn hx => ?_, fun k hn hx => ?_, fun j p hn hx => ?_,
    fun j q hn hx => ?_⟩ <;> simp only [hn]
  · simp [hx, bitsSeen]
  · simp [hx, bitsSeen]
  · simp [hx, bitsSeen]
  · simp [hx, bitsSeen]
  · cases x <;> simp [hx, bitsSeen]
  · simp [hx, bitsSeen]
  · simp [hx, numberRead, numberSeen]
  · simp [hx, numberRead, numberSeen]
  · cases h : Config.freeBit s.fresh <;> simp [hx, h, numberRead, numberSeen]
  · simp [valueOf_of_getElem? hx, numberRead, numberSeen]
  · simp [valueOf_of_getElem? hx, numberRead, numberSeen]

/-- Settles O12: of the four host actions only a HostWrite can be refused, by `hostWrite_cases`. -/
theorem stepStopsOnlyOnAForeignHostValue : Obligations.StepStopsOnlyOnAForeignHostValue := by
  unfold Obligations.StepStopsOnlyOnAForeignHostValue
  intro s
  cases hp : s.pending with
  | nil => exact .inl ⟨s, by simp only [step, nextAction, hp]⟩
  | cons a rest =>
    rw [step_of_pending hp]
    cases a with
    | write n v =>
      refine (hostWrite_cases n v { s with pending := rest }).imp_right ?_
      rintro ⟨he, hs, hfit⟩
      exact ⟨he, hs, n, v, rest, rfl, hfit⟩
    | read n => exact .inl ⟨_, rfl⟩
    | command w => exact .inl (hostCommand_next w _)
    | reset => exact .inl ⟨_, rfl⟩

/-- Settles O58: `FAULT` is 0, the default table is valid, and no number is written. -/
theorem resetMeetsTheInvariant : Obligations.ResetMeetsTheInvariant := by
  unfold Obligations.ResetMeetsTheInvariant
  refine ⟨?_, hardware_valid, fun n x hx => ?_⟩
  · unfold FaultLegal
    decide
  · rw [number_reset] at hx
    cases hx

end Sys2Proof.Proofs
end

section
/-! PROOFS of the family 10_state.md, second part: the bit-field commands (R131 to R136). Each command is first reduced
to the pure function it computes; the functions are then read bit by bit. -/

namespace Sys2Proof.Machine

/-! ### The commands as functions of `V` and `W` -/

section commands
variable {s : State} {width lsb : Byte} {v w : Word64}

theorem widthOk_of_le (h1 : 1 ≤ width.toNat) (h64 : width.toNat ≤ 64) : widthOk width = true :=
  decide_eq_true ⟨h1, h64⟩

theorem spanOk_of_le (h1 : 1 ≤ width.toNat) (h64 : lsb.toNat + width.toNat ≤ 64) : spanOk width lsb = true :=
  decide_eq_true ⟨h1, by omega, h64⟩

theorem execFitsu_eq (hs : Running s) (hv : s.v = some v) (hw : widthOk width = true) :
    execFitsu width s = .next (s.setT (fitsUnsigned (u64 v) width.toNat)) := by
  simp [execFitsu, command, hs, hv, hw]

theorem execFitss_eq (hs : Running s) (hv : s.v = some v) (hw : widthOk width = true) :
    execFitss width s = .next (s.setT (fitsSigned (i64 v) width.toNat)) := by
  simp [execFitss, command, hs, hv, hw]

theorem execGetu_eq (hs : Running s) (hw : s.w = some w) (hspan : spanOk width lsb = true) :
    execGetu width lsb s = .next (s.setR (zext64 (getUnsigned w width.toNat lsb.toNat))) := by
  simp [execGetu, command, hs, hw, hspan]

theorem execGets_eq (hs : Running s) (hw : s.w = some w) (hspan : spanOk width lsb = true) :
    execGets width lsb s = .next (s.setR (sext64 (getSigned w width.toNat lsb.toNat))) := by
  simp [execGets, command, hs, hw, hspan]

theorem execSetu_eq (hs : Running s) (hw : s.w = some w) (hv : s.v = some v) (hspan : spanOk width lsb = true)
    (hfit : fitsUnsigned (u64 v) width.toNat = true) :
    execSetu width lsb s = .next (s.setW (setUnsigned w width.toNat lsb.toNat v.toNat)) := by
  simp [execSetu, command, hs, hw, hv, hspan, hfit]

theorem execSets_eq (hs : Running s) (hw : s.w = some w) (hv : s.v = some v) (hspan : spanOk width lsb = true)
    (hfit : fitsSigned (i64 v) width.toNat = true) :
    execSets width lsb s = .next (s.setW (setSigned w width.toNat lsb.toNat (i64 v))) := by
  simp [execSets, command, hs, hw, hv, hspan, hfit]

end commands

/-! ### Fits tests and sign extension -/

/-- The low bits of a word read as two's complement: its value reduced to the balanced range (R101). -/
theorem toInt_setWidth_eq_bmod (v : Word64) {width : Nat} (h : width ≤ 64) :
    (v.setWidth width).toInt = v.toInt.bmod (2 ^ width) := by
  rw [BitVec.toInt_setWidth, BitVec.toInt_eq_toNat_bmod, Int.bmod_bmod_of_dvd (Nat.pow_dvd_pow 2 h)]

/-- An integer is its own balanced remainder exactly when it fits the width (R132). -/
theorem bmod_two_pow_eq_self_iff (n : Int) {width : Nat} (h : 1 ≤ width) :
    n.bmod (2 ^ width) = n ↔ -2 ^ (width - 1) ≤ n ∧ n < 2 ^ (width - 1) := by
  obtain ⟨k, rfl⟩ : ∃ k, width = k + 1 := ⟨width - 1, by omega⟩
  have hpow : 2 ^ (k + 1) = 2 * 2 ^ k := pow_succ' 2 k
  have hcast : ((2 ^ k : Nat) : Int) = 2 ^ k := by push_cast; rfl
  have hpos : 0 < 2 ^ k := by positivity
  rw [Nat.add_sub_cancel, ← hcast, hpow]
  generalize 2 ^ k = m at hpos
  constructor
  · intro he
    have hlo := Int.le_bmod (x := n) (m := 2 * m) (by omega)
    have hhi := Int.bmod_lt (x := n) (m := 2 * m) (by omega)
    rw [he] at hlo hhi
    omega
  · rintro ⟨hlo, hhi⟩
    exact Int.bmod_eq_of_le (by omega) (by omega)

/-- A word is its low bits sign-extended exactly when its value fits them (R132). -/
theorem signExtend_setWidth_eq_self_iff (v : Word64) {width : Nat} (h1 : 1 ≤ width) (h64 : width ≤ 64) :
    (v.setWidth width).signExtend 64 = v ↔ -2 ^ (width - 1) ≤ v.toInt ∧ v.toInt < 2 ^ (width - 1) := by
  rw [← BitVec.toInt_inj, BitVec.toInt_signExtend_of_le h64, toInt_setWidth_eq_bmod v h64,
    bmod_two_pow_eq_self_iff v.toInt h1]

/-! ### Gets and sets bit by bit -/

/-- GETU's result, bit by bit (R133). -/
theorem getLsbD_zext64_getUnsigned (w : Word64) {width : Nat} (lsb : Nat) (h : width ≤ 64) (i : Nat) :
    (zext64 (getUnsigned w width lsb)).getLsbD i = (decide (i < width) && w.getLsbD (lsb + i)) := by
  rw [zext64, BitVec.getLsbD_ofNat, getUnsigned_testBit]
  by_cases hi : i < width
  · simp [hi, show i < 64 by omega]
  · simp [hi]

/-- GETS's result is the unsigned field sign-extended (R134). -/
theorem sext64_getSigned (w : Word64) {width : Nat} (lsb : Nat) (h : 1 ≤ width) :
    sext64 (getSigned w width lsb) = (BitVec.ofNat width (getUnsigned w width lsb)).signExtend 64 := by
  rw [getSigned_eq_toInt w lsb h]
  rfl

/-- GETS's result, bit by bit: the field, its top bit repeated above it (R134). -/
theorem getLsbD_sext64_getSigned (w : Word64) {width : Nat} (lsb : Nat) (h : 1 ≤ width) {i : Nat} (hi : i < 64) :
    (sext64 (getSigned w width lsb)).getLsbD i =
      if i < width then w.getLsbD (lsb + i) else w.getLsbD (lsb + width - 1) := by
  have hbit : ∀ j, j < width →
      (BitVec.ofNat width (getUnsigned w width lsb)).getLsbD j = w.getLsbD (lsb + j) := fun j hj => by
    rw [BitVec.getLsbD_ofNat, getUnsigned_testBit, decide_eq_true hj, Bool.true_and, Bool.true_and]
  rw [sext64_getSigned w lsb h, BitVec.getLsbD_signExtend, BitVec.msb_eq_getLsbD_last, hbit (width - 1) (by omega),
    show lsb + (width - 1) = lsb + width - 1 by omega]
  by_cases hlt : i < width
  · rw [decide_eq_true hi, Bool.true_and, if_pos hlt, if_pos hlt, hbit i hlt]
  · rw [decide_eq_true hi, Bool.true_and, if_neg hlt, if_neg hlt]

/-- The low bits of a word's signed and of its unsigned reading are the same (R101, R136). -/
theorem i64_emod_two_pow_toNat (v : Word64) {width : Nat} (h : width ≤ 64) :
    (i64 v % 2 ^ width).toNat = v.toNat % 2 ^ width := by
  have hdvd : ((2 ^ width : Nat) : Int) ∣ ((2 ^ 64 : Nat) : Int) := Int.natCast_dvd_natCast.mpr (Nat.pow_dvd_pow 2 h)
  have hcast : (2 : Int) ^ width = ((2 ^ width : Nat) : Int) := by push_cast; rfl
  rw [i64, BitVec.toInt_eq_toNat_bmod, hcast, ← Int.emod_emod_of_dvd _ hdvd, Int.bmod_emod,
    Int.emod_emod_of_dvd _ hdvd, ← Int.natCast_emod, Int.toNat_natCast]

/-- A set of the low bits of a value, bit by bit (R135, R136). -/
theorem getLsbD_setUnsigned_mod (w v : Word64) (width lsb : Nat) {i : Nat} (hi : i < 64) :
    (setUnsigned w width lsb (v.toNat % 2 ^ width)).getLsbD i =
      if lsb ≤ i ∧ i < lsb + width then v.getLsbD (i - lsb) else w.getLsbD i := by
  rw [setUnsigned_getLsbD w lsb hi (Nat.mod_lt _ (by positivity))]
  split
  · rw [Nat.testBit_mod_two_pow, decide_eq_true (by omega), Bool.true_and, BitVec.getLsbD]
  · rfl

end Sys2Proof.Machine

namespace Sys2Proof.Proofs

open Machine

/-- Settles O13: the two tests as inequalities, and the signed one as a sign extension. -/
theorem fitsCommandsSetThePredicate : Obligations.FitsCommandsSetThePredicate := by
  unfold Obligations.FitsCommandsSetThePredicate
  intro s width v hs hv h1 h64
  have hw := widthOk_of_le h1 h64
  refine ⟨?_, fitsSigned (i64 v) width.toNat, execFitss_eq hs hv hw, ?_, ?_⟩
  · rw [← fitsUnsigned_natCast]
    exact execFitsu_eq hs hv hw
  · rw [fitsSigned_eq_true, Int.le_sub_one_iff, i64]
  · rw [fitsSigned_eq_true, signExtend_setWidth_eq_self_iff v h1 h64, i64]

/-- Settles O14: the two results bit by bit. -/
theorem getCommandsReadTheSpan : Obligations.GetCommandsReadTheSpan := by
  unfold Obligations.GetCommandsReadTheSpan
  intro s width lsb w hs hw h1 h64
  have hspan := spanOk_of_le h1 h64
  exact ⟨⟨_, execGetu_eq hs hw hspan, getLsbD_zext64_getUnsigned w _ (by omega)⟩,
    ⟨_, execGets_eq hs hw hspan, fun _ hi => getLsbD_sext64_getSigned w _ h1 hi⟩⟩

/-- Settles O15: both commands set the span to the low bits of `V`, which are `V`'s pattern when it fits. -/
theorem setCommandsWriteTheSpan : Obligations.SetCommandsWriteTheSpan := by
  unfold Obligations.SetCommandsWriteTheSpan
  intro s width lsb w v hs hw hv h1 h64
  have hspan := spanOk_of_le h1 h64
  refine ⟨setUnsigned w width.toNat lsb.toNat (v.toNat % 2 ^ width.toNat),
    fun i hi => getLsbD_setUnsigned_mod w v _ _ hi, fun hfit => ?_, fun hlo hhi => ?_⟩
  · have hfits : fitsUnsigned (u64 v) width.toNat = true := by
      rw [u64, fitsUnsigned_natCast]
      exact decide_eq_true hfit
    rw [Nat.mod_eq_of_lt hfit]
    exact execSetu_eq hs hw hv hspan hfits
  · rw [← i64_emod_two_pow_toNat v (by omega)]
    exact execSets_eq hs hw hv hspan (fitsSigned_eq_true.mpr ⟨hlo, hhi⟩)

end Sys2Proof.Proofs
end

section
/-! PROOFS of the family 10_state.md, third part: what a command reads and writes (R33). Every single-stage command, run
on two cores that agree on what it reads, makes the same update of its destinations on both or raises the same fault on
both (`AnswersAlike`); the frame of a command and its dependence on its sources alone both follow, and carry over to the
composites by induction along their constituents. An unwritten source is the first fault a command can raise. -/

namespace Sys2Proof.Machine

/-! ### Agreement on a register -/

theorem agree_refl (s : State) (x : Reg) : Agree s s x := by
  cases x <;> rfl

theorem agree_symm {s t : State} {x : Reg} (h : Agree s t x) : Agree t s x := by
  cases x <;> exact Eq.symm h

theorem agree_trans {s t u : State} {x : Reg} (hst : Agree s t x) (htu : Agree t u x) : Agree s u x := by
  cases x <;> exact Eq.trans hst htu

/-! ### Updates of named registers -/

/-- A function on states that writes the registers of a list, with values of its own, and nothing else of the core or
of the host's side but the count of free values drawn. -/
structure Updates (L : List Reg) (g : State → State) : Prop where
  frame : ∀ s x, x ∉ L → Agree s (g s) x
  written : ∀ s t x, x ∈ L → Agree (g s) (g t) x
  fault : ∀ s, (g s).fault = s.fault
  config : ∀ s, (g s).config = s.config
  pending : ∀ s, (g s).pending = s.pending
  answer : ∀ s, (g s).answer = s.answer
  fresh : ∀ s t, s.fresh = t.fresh → (g s).fresh = (g t).fresh

namespace Updates

theorem comp {L M : List Reg} {g h : State → State} (hg : Updates L g) (hh : Updates M h) :
    Updates (L ++ M) (fun s => h (g s)) where
  frame s x hx := by
    rw [List.mem_append, not_or] at hx
    exact agree_trans (hg.frame s x hx.1) (hh.frame (g s) x hx.2)
  written s t x hx := by
    by_cases hM : x ∈ M
    · exact hh.written (g s) (g t) x hM
    · have hL : x ∈ L := (List.mem_append.mp hx).resolve_right hM
      exact agree_trans (agree_symm (hh.frame (g s) x hM)) (agree_trans (hg.written s t x hL) (hh.frame (g t) x hM))
  fault s := (hh.fault (g s)).trans (hg.fault s)
  config s := (hh.config (g s)).trans (hg.config s)
  pending s := (hh.pending (g s)).trans (hg.pending s)
  answer s := (hh.answer (g s)).trans (hg.answer s)
  fresh s t h := hh.fresh (g s) (g t) (hg.fresh s t h)

/-- An update of one register. -/
theorem single {y : Reg} {g : State → State} (hframe : ∀ s x, x ≠ y → Agree s (g s) x)
    (hwritten : ∀ s t, Agree (g s) (g t) y)
    (hfault : ∀ s, (g s).fault = s.fault := by intro s; rfl)
    (hconfig : ∀ s, (g s).config = s.config := by intro s; rfl)
    (hpending : ∀ s, (g s).pending = s.pending := by intro s; rfl)
    (hanswer : ∀ s, (g s).answer = s.answer := by intro s; rfl)
    (hfresh : ∀ s, (g s).fresh = s.fresh := by intro s; rfl) : Updates [y] g where
  frame s x hx := hframe s x (List.ne_of_not_mem_cons hx)
  written s t x hx := by
    obtain rfl := List.mem_singleton.mp hx
    exact hwritten s t
  fault := hfault
  config := hconfig
  pending := hpending
  answer := hanswer
  fresh s t h := by rw [hfresh, hfresh, h]

theorem setNumber (n : NumReg) (x : Number) : Updates [.num n] (·.setNumber n x) :=
  single (fun s _ hy => agree_setNumber s x hy)
    (fun s t => (number_setNumber_same s n x).trans (number_setNumber_same t n x).symm)
    (State.setNumber_fault · n x) (State.setNumber_config · n x) (State.setNumber_pending · n x)
    (State.setNumber_answer · n x) (State.setNumber_fresh · n x)

theorem setNumbers (l : List (NumReg × Number)) : Updates (l.map fun e => .num e.1) (·.setNumbers l) := by
  induction l with
  | nil =>
    exact ⟨fun s x _ => agree_refl s x, fun _ _ _ hx => absurd hx List.not_mem_nil, fun _ => rfl, fun _ => rfl,
      fun _ => rfl, fun _ => rfl, fun _ _ h => h⟩
  | cons e l ih => exact (setNumber e.1 e.2).comp ih

theorem setQ (k : Part) (x : Word64) : Updates [.q k] (·.setQ k x) :=
  single (fun s _ hy => agree_setQ s x hy) (fun s t => (q_setQ_same s k x).trans (q_setQ_same t k x).symm)

theorem setT (b : Bool) : Updates [.t] (·.setT b) := by
  refine single (fun s y hy => ?_) fun _ _ => rfl
  cases y
  case t => exact absurd rfl hy
  all_goals rfl

theorem setR (x : Word64) : Updates [.r] (·.setR x) := by
  refine single (fun s y hy => ?_) fun _ _ => rfl
  cases y
  case r => exact absurd rfl hy
  all_goals rfl

theorem setW (x : Word64) : Updates [.w] (·.setW x) := by
  refine single (fun s y hy => ?_) fun _ _ => rfl
  cases y
  case w => exact absurd rfl hy
  all_goals rfl

theorem setCw (x : Word32) : Updates [.cw] (·.setCw x) := by
  refine single (fun s y hy => ?_) fun _ _ => rfl
  cases y
  case cw => exact absurd rfl hy
  all_goals rfl

theorem drawn (n : Nat) : Updates [] (·.drawn n) where
  frame s y _ := by cases y <;> rfl
  written _ _ _ hx := absurd hx List.not_mem_nil
  fault _ := rfl
  config _ := rfl
  pending _ := rfl
  answer _ := rfl
  fresh s t h := congrArg (· + n) h

/-! The destinations of the commands, each a sequence of these. -/

theorem setYpp (p : Pixel) (x : Ypp Number) : Updates (yppRegs p) (·.setYpp p x) := by
  simp only [setYpp_eq_setNumbers]
  exact setNumbers [(.ypp p .y, x.y), (.ypp p .pb, x.pb), (.ypp p .pr, x.pr)]

theorem setRgb (p : Pixel) (x : Rgb Number) : Updates (rgbRegs p) (·.setRgb p x) := by
  simp only [setRgb_eq_setNumbers]
  exact setNumbers [(.rgb p .r, x.r), (.rgb p .g, x.g), (.rgb p .b, x.b)]

theorem setSamplesY (y : Quad Number) : Updates lumaRegs (·.setSamplesY y) :=
  setNumbers [(.ypp .topLeft .y, y.topLeft), (.ypp .topRight .y, y.topRight),
    (.ypp .bottomLeft .y, y.bottomLeft), (.ypp .bottomRight .y, y.bottomRight)]

theorem setSamplesChroma (x : Chroma Number) : Updates chromaRegs (·.setSamplesChroma x) :=
  setNumbers [(.ypp .topLeft .pb, x.pb), (.ypp .topRight .pb, x.pb), (.ypp .bottomLeft .pb, x.pb),
    (.ypp .bottomRight .pb, x.pb), (.ypp .topLeft .pr, x.pr), (.ypp .topRight .pr, x.pr),
    (.ypp .bottomLeft .pr, x.pr), (.ypp .bottomRight .pr, x.pr)]

theorem setCoefA (a : Number) : Updates [.num (.coef .a)] (·.setCoefA a) := setNumber (.coef .a) a

theorem setCoefDifferences (b c d : Number) :
    Updates [.num (.coef .b), .num (.coef .c), .num (.coef .d)] (·.setCoefDifferences b c d) :=
  setNumbers [(.coef .b, b), (.coef .c, c), (.coef .d, d)]

theorem setCoefLuma (x : Luma Number) :
    Updates [.num (.coef .a), .num (.coef .b), .num (.coef .c), .num (.coef .d)] (·.setCoefLuma x) :=
  setNumbers [(.coef .a, x.a), (.coef .b, x.b), (.coef .c, x.c), (.coef .d, x.d)]

theorem setCoefChroma (x : Chroma Number) :
    Updates [.num (.coef .pb), .num (.coef .pr)] (·.setCoefChroma x) :=
  setNumbers [(.coef .pb, x.pb), (.coef .pr, x.pr)]

theorem setQA (a : Word64) : Updates [.q .a] (·.setQA a) := setQ .a a

theorem setQDifferences (b c d : Word64) : Updates [.q .b, .q .c, .q .d] (·.setQDifferences b c d) :=
  ((setQ .b b).comp (setQ .c c)).comp (setQ .d d)

theorem setQChroma (pb pr : Word64) : Updates [.q .pb, .q .pr] (·.setQChroma pb pr) :=
  (setQ .pb pb).comp (setQ .pr pr)

theorem setQAll (x : Six Word64) : Updates allQ (·.setQAll x) :=
  ((((setQA x.a).comp (setQDifferences x.b x.c x.d))).comp (setQChroma x.pb x.pr))

end Updates

/-! ### The same command on two cores -/

/-- Two cores agree on the registers of a list, on `FAULT` and on the configuration, and under `P_TIE = ANY` on the
free bits to come. -/
structure SameInputs (L : List Reg) (s s' : State) : Prop where
  fault : s.fault = s'.fault
  config : s.config = s'.config
  free : s.config.tie = .lowest ∨ s.fresh = s'.fresh
  agree : ∀ x ∈ L, Agree s s' x

/-- Two bodies of a command compute the same update of two cores, or raise the same fault. -/
def SameUpdate (L : List Reg) (s s' : State) (x x' : Checked State) : Prop :=
  (∃ g, Updates L g ∧ x = .ok (g s) ∧ x' = .ok (g s')) ∨ ∃ e, x = .error e ∧ x' = .error e

theorem SameUpdate.pure {L : List Reg} {s s' : State} {g : State → State} (hg : Updates L g) :
    SameUpdate L s s' (pure (g s)) (pure (g s')) := .inl ⟨g, hg, rfl, rfl⟩

theorem SameUpdate.bind {α : Type} {L : List Reg} {s s' : State} {x : Checked α} {f f' : α → Checked State}
    (h : ∀ a, SameUpdate L s s' (f a) (f' a)) : SameUpdate L s s' (x >>= f) (x >>= f') := by
  cases x with
  | ok a => exact h a
  | error e => exact .inr ⟨e, rfl, rfl⟩

/-- Two answers are the same update of two cores, or the same fault raised on both. -/
def AnswersAlike (L : List Reg) (s s' : State) (o o' : Answer) : Prop :=
  ∃ g, o = .next (g s) ∧ o' = .next (g s') ∧ (Updates L g ∨ ∃ e, g = (·.raise e))

theorem command_alike {L M : List Reg} {s s' : State} {x x' : Checked State} (hs : Running s)
    (h : SameInputs M s s') (hx : SameUpdate L s s' x x') : AnswersAlike L s s' (command s x) (command s' x') := by
  have hs' : s'.halted = false := (State.halted_congr h.fault).symm.trans hs
  rcases hx with ⟨g, hg, rfl, rfl⟩ | ⟨e, rfl, rfl⟩
  · exact ⟨g, command_ok hs _, command_ok hs' _, .inl hg⟩
  · exact ⟨(·.raise e), command_error hs e, command_error hs' e, .inr ⟨e, rfl⟩⟩

/-! The sources of the commands, equal on cores that agree on the registers they read. -/

section sources
variable {s s' : State}

theorem rgb_get_eq {p : Pixel} (h : ∀ x ∈ rgbRegs p, Agree s s' x) : s.rgb.get p = s'.rgb.get p := by
  simp only [rgbRegs, List.forall_mem_cons, Agree, State.number, rgbPart] at h
  obtain ⟨hr, hg, hb, -⟩ := h
  exact (Rgb.mk.injEq ..).mpr ⟨hr, hg, hb⟩

theorem ypp_get_eq {p : Pixel} (h : ∀ x ∈ yppRegs p, Agree s s' x) : s.ypp.get p = s'.ypp.get p := by
  simp only [yppRegs, List.forall_mem_cons, Agree, State.number, yppPart] at h
  obtain ⟨hy, hpb, hpr, -⟩ := h
  exact (Ypp.mk.injEq ..).mpr ⟨hy, hpb, hpr⟩

theorem ypp_map_eq {k : YppPart} (h : ∀ p, Agree s s' (.num (.ypp p k))) :
    (s.ypp.map fun z => yppPart z k) = s'.ypp.map fun z => yppPart z k :=
  (Quad.mk.injEq ..).mpr ⟨h .topLeft, h .topRight, h .bottomLeft, h .bottomRight⟩

theorem six_eq {α : Type} {x x' : Six α} (h : ∀ k, sixPart x k = sixPart x' k) : x = x' :=
  (Six.mk.injEq ..).mpr ⟨h .a, h .b, h .c, h .d, h .pb, h .pr⟩

theorem sourceLuma_congr {x x' : Six (Option Number)} (ha : x.a = x'.a) (hb : x.b = x'.b) (hc : x.c = x'.c)
    (hd : x.d = x'.d) : sourceLuma x = sourceLuma x' := by
  simp only [sourceLuma, ha, hb, hc, hd]

theorem sourceChroma_congr {α : Type} {x x' : Six (Option α)} (hpb : x.pb = x'.pb) (hpr : x.pr = x'.pr) :
    sourceChroma x = sourceChroma x' := by
  simp only [sourceChroma, hpb, hpr]

end sources

section commands
variable {s s' : State}

/-- CSCF raises ILLEGAL_CMD on both cores, or reads the same pixel on both (R151). -/
theorem execCscf_alike {idx : Byte} (hs : Running s) (h : SameInputs (reads (.cscf idx)) s s') :
    AnswersAlike (writes (.cscf idx)) s s' (execCscf idx s) (execCscf idx s') := by
  have hagree := h.agree
  refine command_alike hs h ?_
  cases hp : pixelOf idx with
  | none => exact .inr ⟨⟨.illegalCmd, 0⟩, by simp [pixel, hp], by simp [pixel, hp]⟩
  | some p =>
    simp only [reads, writes, hp, Option.elim] at hagree ⊢
    rw [pixel_of_pixelOf hp, Checked.ok_bind, Checked.ok_bind, rgb_get_eq hagree, h.config]
    exact .bind fun _ => .bind fun _ => .bind fun _ => .pure (.setYpp p _)

/-- CSCI raises ILLEGAL_CMD on both cores, or reads the same pixel on both (R152). -/
theorem execCsci_alike {idx : Byte} (hs : Running s) (h : SameInputs (reads (.csci idx)) s s') :
    AnswersAlike (writes (.csci idx)) s s' (execCsci idx s) (execCsci idx s') := by
  have hagree := h.agree
  refine command_alike hs h ?_
  cases hp : pixelOf idx with
  | none => exact .inr ⟨⟨.illegalCmd, 0⟩, by simp [pixel, hp], by simp [pixel, hp]⟩
  | some p =>
    simp only [reads, writes, hp, Option.elim] at hagree ⊢
    rw [pixel_of_pixelOf hp, Checked.ok_bind, Checked.ok_bind, ypp_get_eq hagree, h.config]
    exact .bind fun _ => .bind fun _ => .bind fun _ => .pure (.setRgb p _)

theorem execBtf_alike (hs : Running s) (h : SameInputs (reads .btf) s s') :
    AnswersAlike (writes .btf) s s' (execBtf s) (execBtf s') := by
  have hy : (s.ypp.map fun z => z.y) = s'.ypp.map fun z => z.y :=
    ypp_map_eq (k := .y) fun p => h.agree (.num (.ypp p .y)) (by cases p <;> simp [reads, lumaRegs])
  refine command_alike hs h ?_
  rw [hy, h.config]
  exact .bind fun _ => .bind fun _ => .bind fun _ => .pure (.setCoefLuma _)

theorem execBti_alike (hs : Running s) (h : SameInputs (reads .bti) s s') :
    AnswersAlike (writes .bti) s s' (execBti s) (execBti s') := by
  have hluma : sourceLuma s.coef = sourceLuma s'.coef :=
    sourceLuma_congr (h.agree (.num (.coef .a)) (by simp [reads])) (h.agree (.num (.coef .b)) (by simp [reads]))
      (h.agree (.num (.coef .c)) (by simp [reads])) (h.agree (.num (.coef .d)) (by simp [reads]))
  refine command_alike hs h ?_
  rw [hluma, h.config]
  exact .bind fun _ => .bind fun _ => .bind fun _ => .pure (.setSamplesY _)

theorem execCavg_alike (hs : Running s) (h : SameInputs (reads .cavg) s s') :
    AnswersAlike (writes .cavg) s s' (execCavg s) (execCavg s') := by
  have hpb : (s.ypp.map fun z => z.pb) = s'.ypp.map fun z => z.pb :=
    ypp_map_eq (k := .pb) fun p => h.agree (.num (.ypp p .pb)) (by cases p <;> simp [reads, chromaRegs])
  have hpr : (s.ypp.map fun z => z.pr) = s'.ypp.map fun z => z.pr :=
    ypp_map_eq (k := .pr) fun p => h.agree (.num (.ypp p .pr)) (by cases p <;> simp [reads, chromaRegs])
  refine command_alike hs h ?_
  rw [hpb, hpr, h.config]
  exact .bind fun _ => .bind fun _ => .bind fun _ => .bind fun _ => .bind fun _ => .bind fun _ =>
    .pure (.setCoefChroma _)

theorem execCrep_alike (hs : Running s) (h : SameInputs (reads .crep) s s') :
    AnswersAlike (writes .crep) s s' (execCrep s) (execCrep s') := by
  have hchroma : sourceChroma s.coef = sourceChroma s'.coef :=
    sourceChroma_congr (h.agree (.num (.coef .pb)) (by simp [reads])) (h.agree (.num (.coef .pr)) (by simp [reads]))
  refine command_alike hs h ?_
  rw [hchroma]
  exact .bind fun _ => .bind fun _ => .pure (.setSamplesChroma _)

theorem execQdc_alike (hs : Running s) (h : SameInputs (reads .qdc) s s') :
    AnswersAlike (writes .qdc) s s' (execQdc s) (execQdc s') := by
  have ha : s.coef.a = s'.coef.a := h.agree (.num (.coef .a)) (by simp [reads])
  refine command_alike hs h ?_
  rw [ha, h.config]
  exact .bind fun _ => .bind fun _ => .bind fun _ => .pure (.setQA _)

theorem execQac_alike (hs : Running s) (h : SameInputs (reads .qac) s s') :
    AnswersAlike (writes .qac) s s' (execQac s) (execQac s') := by
  have hb : s.coef.b = s'.coef.b := h.agree (.num (.coef .b)) (by simp [reads])
  have hc : s.coef.c = s'.coef.c := h.agree (.num (.coef .c)) (by simp [reads])
  have hd : s.coef.d = s'.coef.d := h.agree (.num (.coef .d)) (by simp [reads])
  refine command_alike hs h ?_
  rw [hb, hc, hd, h.config]
  exact .bind fun _ => .bind fun _ => .bind fun _ => .bind fun _ => .bind fun _ => .bind fun _ => .bind fun _ =>
    .bind fun _ => .bind fun _ => .pure (.setQDifferences _ _ _)

/-- A search reads the free bit under `P_TIE = ANY` only (R202). -/
theorem indexOf_congr {L : List Reg} (h : SameInputs L s s') (k : Nat) (v : Rat) :
    indexOf s.config (Config.freeBit (s.fresh + k)) v = indexOf s'.config (Config.freeBit (s'.fresh + k)) v := by
  rw [← h.config]
  rcases h.free with htie | hfresh
  · simp only [indexOf, htie]
  · rw [hfresh]

theorem execQch_alike (hs : Running s) (h : SameInputs (reads .qch) s s') :
    AnswersAlike (writes .qch) s s' (execQch s) (execQch s') := by
  have hchroma : sourceChroma s.coef = sourceChroma s'.coef :=
    sourceChroma_congr (h.agree (.num (.coef .pb)) (by simp [reads])) (h.agree (.num (.coef .pr)) (by simp [reads]))
  refine command_alike hs h ?_
  rw [hchroma]
  refine .bind fun _ => .bind fun x => ?_
  have hpb : indexOf s.config (Config.freeBit s.fresh) x.pb = indexOf s'.config (Config.freeBit s'.fresh) x.pb :=
    indexOf_congr h 0 x.pb
  rw [hpb, indexOf_congr h 1 x.pr, h.config]
  exact .pure ((Updates.setQChroma _ _).comp (.drawn _))

theorem execDqdc_alike (hs : Running s) (h : SameInputs (reads .dqdc) s s') :
    AnswersAlike (writes .dqdc) s s' (execDqdc s) (execDqdc s') := by
  have ha : s.q.a = s'.q.a := h.agree (.q .a) (by simp [reads])
  refine command_alike hs h ?_
  rw [ha, h.config]
  exact .bind fun _ => .bind fun _ => .bind fun _ => .pure (.setCoefA _)

theorem execDqac_alike (hs : Running s) (h : SameInputs (reads .dqac) s s') :
    AnswersAlike (writes .dqac) s s' (execDqac s) (execDqac s') := by
  have hb : s.q.b = s'.q.b := h.agree (.q .b) (by simp [reads])
  have hc : s.q.c = s'.q.c := h.agree (.q .c) (by simp [reads])
  have hd : s.q.d = s'.q.d := h.agree (.q .d) (by simp [reads])
  refine command_alike hs h ?_
  rw [hb, hc, hd, h.config]
  exact .bind fun _ => .bind fun _ => .bind fun _ => .bind fun _ => .bind fun _ => .bind fun _ => .bind fun _ =>
    .bind fun _ => .bind fun _ => .pure (.setCoefDifferences _ _ _)

theorem execDqch_alike (hs : Running s) (h : SameInputs (reads .dqch) s s') :
    AnswersAlike (writes .dqch) s s' (execDqch s) (execDqch s') := by
  have hchroma : sourceChroma s.q = sourceChroma s'.q :=
    sourceChroma_congr (h.agree (.q .pb) (by simp [reads])) (h.agree (.q .pr) (by simp [reads]))
  refine command_alike hs h ?_
  rw [hchroma, h.config]
  exact .bind fun _ => .bind fun _ => .bind fun _ => .pure (.setCoefChroma _)

theorem execPack_alike (hs : Running s) (h : SameInputs (reads .pack) s s') :
    AnswersAlike (writes .pack) s s' (execPack s) (execPack s') := by
  have hq : s.q = s'.q := six_eq fun k => h.agree (.q k) (by cases k <;> simp [reads, allQ])
  refine command_alike hs h ?_
  rw [hq]
  exact .bind fun _ => .bind fun _ => .pure ((Updates.setW _).comp (.setCw _))

theorem execUnpack_alike (hs : Running s) (h : SameInputs (reads .unpack) s s') :
    AnswersAlike (writes .unpack) s s' (execUnpack s) (execUnpack s') := by
  have hcw : s.cw = s'.cw := h.agree .cw (by simp [reads])
  refine command_alike hs h ?_
  rw [hcw]
  exact .bind fun _ => .pure ((Updates.setW _).comp (.setQAll _))

end commands

/-- A single-stage command makes the same update of its destinations on two cores that agree on its sources, or raises
the same fault on both. -/
theorem exec_alike_single {i : Instr} (hi : ¬ Composite i) {s s' : State} (hs : Running s)
    (h : SameInputs (reads i) s s') : AnswersAlike (writes i) s s' (exec i s) (exec i s') := by
  cases i with
  | fitsu width | fitss width =>
    have hv : s.v = s'.v := h.agree .v (by simp [reads])
    refine command_alike hs h ?_
    rw [hv]
    exact .bind fun _ => .bind fun _ => .pure (.setT _)
  | getu width lsb | gets width lsb =>
    have hw : s.w = s'.w := h.agree .w (by simp [reads])
    refine command_alike hs h ?_
    rw [hw]
    exact .bind fun _ => .bind fun _ => .pure (.setR _)
  | setu width lsb | sets width lsb =>
    have hw : s.w = s'.w := h.agree .w (by simp [reads])
    have hv : s.v = s'.v := h.agree .v (by simp [reads])
    refine command_alike hs h ?_
    rw [hw, hv]
    exact .bind fun _ => .bind fun _ => .bind fun _ => .bind fun _ => .pure (.setW _)
  | cscf idx => exact execCscf_alike hs h
  | csci idx => exact execCsci_alike hs h
  | btf => exact execBtf_alike hs h
  | bti => exact execBti_alike hs h
  | cavg => exact execCavg_alike hs h
  | crep => exact execCrep_alike hs h
  | qdc => exact execQdc_alike hs h
  | qac => exact execQac_alike hs h
  | qch => exact execQch_alike hs h
  | dqdc => exact execDqdc_alike hs h
  | dqac => exact execDqac_alike hs h
  | dqch => exact execDqch_alike hs h
  | pack => exact execPack_alike hs h
  | unpack => exact execUnpack_alike hs h
  | encblk => exact absurd trivial hi
  | decblk => exact absurd trivial hi

/-! ### The frame of a command -/

/-- The core that a command leaves differs from the one it ran on in the registers of a list at most, and in `FAULT`
only if it halted a running core (R33, R266). -/
structure ChangesOnly (L : List Reg) (s t : State) : Prop where
  agree : ∀ x, x ∉ L → Agree s t x
  config : t.config = s.config
  pending : t.pending = s.pending
  answer : t.answer = s.answer
  fault : t.fault = s.fault ∨ (Running s ∧ t.halted = true)

namespace ChangesOnly

theorem refl (L : List Reg) (s : State) : ChangesOnly L s s :=
  ⟨fun x _ => agree_refl s x, rfl, rfl, rfl, .inl rfl⟩

/-- A core that a first part halted is not changed by a second. -/
theorem trans {L : List Reg} {s t u : State} (hst : ChangesOnly L s t) (htu : ChangesOnly L t u) :
    ChangesOnly L s u where
  agree x hx := agree_trans (hst.agree x hx) (htu.agree x hx)
  config := htu.config.trans hst.config
  pending := htu.pending.trans hst.pending
  answer := htu.answer.trans hst.answer
  fault := by
    rcases hst.fault with hfault | ⟨hs, ht⟩
    · rcases htu.fault with hfault' | ⟨ht, hu⟩
      · exact .inl (hfault'.trans hfault)
      · exact .inr ⟨(State.halted_congr hfault).symm.trans ht, hu⟩
    · rcases htu.fault with hfault' | ⟨ht', -⟩
      · exact .inr ⟨hs, (State.halted_congr hfault').trans ht⟩
      · exact absurd ht (Bool.eq_false_iff.mp ht')

theorem mono {L M : List Reg} {s t : State} (h : ChangesOnly L s t) (hLM : ∀ x ∈ L, x ∈ M) : ChangesOnly M s t :=
  ⟨fun x hx => h.agree x fun hL => hx (hLM x hL), h.config, h.pending, h.answer, h.fault⟩

end ChangesOnly

theorem changesOnly_single {i : Instr} (hi : ¬ Composite i) {s t : State} (h : exec i s = .next t) :
    ChangesOnly (writes i) s t := by
  cases hs : s.halted with
  | true =>
    rw [exec_of_halted_single hi hs] at h
    cases h
    exact .refl _ s
  | false =>
    have hself : SameInputs (reads i) s s := ⟨rfl, rfl, .inr rfl, fun x _ => agree_refl s x⟩
    obtain ⟨g, ho, -, hg⟩ := exec_alike_single hi hs hself
    obtain rfl : g s = t := Host.Outcome.next.inj (ho.symm.trans h)
    rcases hg with hg | ⟨e, rfl⟩
    · exact ⟨hg.frame s, hg.config s, hg.pending s, hg.answer s, .inl (hg.fault s)⟩
    · exact ⟨fun x _ => agree_raise s e x, rfl, rfl, rfl, .inr ⟨hs, s.raise_halted e⟩⟩

theorem changesOnly_runCommands {L : List Reg} {cs : List Instr} (hc : ∀ c ∈ cs, ¬ Composite c)
    (hL : ∀ c ∈ cs, ∀ x ∈ writes c, x ∈ L) {s t : State} (h : runCommands cs s = .next t) : ChangesOnly L s t := by
  induction cs generalizing s with
  | nil =>
    cases h
    exact .refl L _
  | cons c cs ih =>
    obtain ⟨u, hu⟩ := exec_next c s
    rw [runCommands_cons, hu, andThen_next] at h
    have hfirst := (changesOnly_single (hc c List.mem_cons_self) hu).mono (hL c List.mem_cons_self)
    exact hfirst.trans (ih (fun d hd => hc d (List.mem_cons_of_mem c hd))
      (fun d hd => hL d (List.mem_cons_of_mem c hd)) h)

/-- The destinations of a composite's constituents are its own (R33, R241, R242). -/
theorem writes_constituents {i c : Instr} (hc : c ∈ constituents i) : ∀ x ∈ writes c, x ∈ writes i := by
  have hencblk : ∀ c ∈ encblkCommands, ∀ x ∈ writes c, x ∈ writes .encblk := by decide
  have hdecblk : ∀ c ∈ decblkCommands, ∀ x ∈ writes c, x ∈ writes .decblk := by decide
  cases i
  case encblk => exact hencblk c hc
  case decblk => exact hdecblk c hc
  all_goals exact absurd hc List.not_mem_nil

/-- The frame of every command (R33). -/
theorem changesOnly_exec {i : Instr} {s t : State} (h : exec i s = .next t) : ChangesOnly (writes i) s t := by
  by_cases hi : Composite i
  · rw [exec_composite hi] at h
    exact changesOnly_runCommands (fun _ hc => not_composite_of_mem_constituents hc)
      (fun _ hc => writes_constituents hc) h
  · exact changesOnly_single hi h

/-! ### A command depends on its sources alone -/

/-- Of two cores that agree on a list of registers, the sources of a command among them, the command raises the same
fault, or leaves cores that agree on its destinations besides. -/
theorem exec_sameInputs {i : Instr} (hi : ¬ Composite i) {L : List Reg} (hL : ∀ x ∈ reads i, x ∈ L)
    {s s' t t' : State} (hs : Running s) (h : SameInputs L s s') (ht : exec i s = .next t)
    (ht' : exec i s' = .next t') :
    t.fault = t'.fault ∧ (Running t → SameInputs (writes i ++ L) t t') := by
  have hreads : SameInputs (reads i) s s' := ⟨h.fault, h.config, h.free, fun x hx => h.agree x (hL x hx)⟩
  obtain ⟨g, ho, ho', hg⟩ := exec_alike_single hi hs hreads
  obtain rfl : g s = t := Host.Outcome.next.inj (ho.symm.trans ht)
  obtain rfl : g s' = t' := Host.Outcome.next.inj (ho'.symm.trans ht')
  rcases hg with hg | ⟨e, rfl⟩
  · have hfault : (g s).fault = (g s').fault := by rw [hg.fault, hg.fault, h.fault]
    refine ⟨hfault, fun _ => ⟨hfault, ?_, ?_, fun x hx => ?_⟩⟩
    · rw [hg.config, hg.config, h.config]
    · rw [hg.config]
      exact h.free.imp_right (hg.fresh s s')
    · by_cases hw : x ∈ writes i
      · exact hg.written s s' x hw
      · have hx' := h.agree x ((List.mem_append.mp hx).resolve_left hw)
        exact agree_trans (agree_symm (hg.frame s x hw)) (agree_trans hx' (hg.frame s' x hw))
  · exact ⟨rfl, fun hrun => absurd (s.raise_halted e) (Bool.eq_false_iff.mp hrun)⟩

/-- Each command of a sequence reads registers that are in a list or that a command before it writes. -/
def sourcesKnown : List Reg → List Instr → Bool
  | _, [] => true
  | L, c :: cs => (reads c).all (fun x => decide (x ∈ L)) && sourcesKnown (writes c ++ L) cs

/-- The registers of a list and all those a sequence of commands writes. -/
def knownAfter : List Reg → List Instr → List Reg
  | L, [] => L
  | L, c :: cs => knownAfter (writes c ++ L) cs

/-- Two cores that agree on the sources of a sequence agree, if no command of it raises a fault, on its destinations
as well. -/
theorem runCommands_sameInputs {cs : List Instr} (hc : ∀ c ∈ cs, ¬ Composite c) {L : List Reg}
    (hL : sourcesKnown L cs = true) {s s' t t' : State} (hs : Running s) (h : SameInputs L s s')
    (ht : runCommands cs s = .next t) (ht' : runCommands cs s' = .next t') :
    t.fault = t'.fault ∧ (Running t → SameInputs (knownAfter L cs) t t') := by
  induction cs generalizing L s s' with
  | nil =>
    cases ht
    cases ht'
    exact ⟨h.fault, fun _ => h⟩
  | cons c cs ih =>
    have hcs : ∀ d ∈ cs, ¬ Composite d := fun d hd => hc d (List.mem_cons_of_mem c hd)
    obtain ⟨hreads, hrest⟩ := Bool.and_eq_true_iff.mp hL
    have hreads' : ∀ x ∈ reads c, x ∈ L := fun x hx => of_decide_eq_true (List.all_eq_true.mp hreads x hx)
    obtain ⟨u, hu⟩ := exec_next c s
    obtain ⟨u', hu'⟩ := exec_next c s'
    rw [runCommands_cons, hu, andThen_next] at ht
    rw [runCommands_cons, hu', andThen_next] at ht'
    obtain ⟨hfault, hsame⟩ := exec_sameInputs (hc c List.mem_cons_self) hreads' hs h hu hu'
    cases hrun : u.halted with
    | false => exact ih hcs hrest hrun (hsame hrun) ht ht'
    | true =>
      rw [runCommands_of_halted hcs hrun] at ht
      rw [runCommands_of_halted hcs ((State.halted_congr hfault).symm.trans hrun)] at ht'
      cases ht
      cases ht'
      exact ⟨hfault, fun hrun' => absurd hrun (Bool.eq_false_iff.mp hrun')⟩

/-- A composite reads its sources before any of its constituents needs another register, and its constituents write
all its destinations (R33, R243). -/
theorem sourcesKnown_constituents {i : Instr} (hi : Composite i) :
    sourcesKnown (reads i) (constituents i) = true ∧ ∀ x ∈ writes i, x ∈ knownAfter (reads i) (constituents i) := by
  cases i
  case encblk => decide
  case decblk => decide
  all_goals exact hi.elim

/-! ### Unwritten sources -/

/-- The fault of an unwritten source (R265). -/
abbrev unwrittenRaise : Raise := ⟨.unwritten, 0⟩

theorem source_bind_unwritten {α β : Type} {x : Option α} {f : α → Checked β}
    (h : x = none ∨ ∀ a, f a = .error unwrittenRaise) : (source x >>= f) = .error unwrittenRaise := by
  cases x with
  | none => rfl
  | some a => exact h.resolve_left (Option.some_ne_none a) a

/-- Three sources read one after another. -/
theorem sources_bind_unwritten {α β : Type} {x y z : Option α} {f : α → α → α → Checked β}
    (h : x = none ∨ y = none ∨ z = none) :
    (source x >>= fun a => source y >>= fun b => source z >>= fun c => f a b c) = .error unwrittenRaise :=
  source_bind_unwritten <| h.imp_right fun h _ => source_bind_unwritten <| h.imp_right fun h _ =>
    source_bind_unwritten (.inl h)

theorem Checked.bind_error {α β : Type} {x : Checked α} {e : Raise} (h : x = .error e) (f : α → Checked β) :
    (x >>= f) = .error e := by
  rw [h]
  rfl

theorem sourceRgb_unwritten {x : Rgb (Option Number)} (h : x.r = none ∨ x.g = none ∨ x.b = none) :
    sourceRgb x = .error unwrittenRaise := sources_bind_unwritten h

theorem sourceYpp_unwritten {x : Ypp (Option Number)} (h : x.y = none ∨ x.pb = none ∨ x.pr = none) :
    sourceYpp x = .error unwrittenRaise := sources_bind_unwritten h

theorem sourceQuad_unwritten {α : Type} {x : Quad (Option α)}
    (h : x.topLeft = none ∨ x.topRight = none ∨ x.bottomLeft = none ∨ x.bottomRight = none) :
    sourceQuad x = .error unwrittenRaise :=
  source_bind_unwritten <| h.imp_right fun h _ => source_bind_unwritten <| h.imp_right fun h _ =>
    source_bind_unwritten <| h.imp_right fun h _ => source_bind_unwritten (.inl h)

theorem sourceLuma_unwritten {x : Six (Option Number)} (h : x.a = none ∨ x.b = none ∨ x.c = none ∨ x.d = none) :
    sourceLuma x = .error unwrittenRaise :=
  source_bind_unwritten <| h.imp_right fun h _ => source_bind_unwritten <| h.imp_right fun h _ =>
    source_bind_unwritten <| h.imp_right fun h _ => source_bind_unwritten (.inl h)

theorem sourceChroma_unwritten {α : Type} {x : Six (Option α)} (h : x.pb = none ∨ x.pr = none) :
    sourceChroma x = .error unwrittenRaise :=
  source_bind_unwritten <| h.imp_right fun h _ => source_bind_unwritten (.inl h)

theorem sourceSix_unwritten {α : Type} {x : Six (Option α)}
    (h : x.a = none ∨ x.b = none ∨ x.c = none ∨ x.d = none ∨ x.pb = none ∨ x.pr = none) :
    sourceSix x = .error unwrittenRaise :=
  source_bind_unwritten <| h.imp_right fun h _ => source_bind_unwritten <| h.imp_right fun h _ =>
    source_bind_unwritten <| h.imp_right fun h _ => source_bind_unwritten <| h.imp_right fun h _ =>
      source_bind_unwritten <| h.imp_right fun h _ => source_bind_unwritten (.inl h)

/-- A group of four sources that raises no UNWRITTEN is read (R265). -/
theorem sourceQuad_cases {α : Type} (x : Quad (Option α)) :
    sourceQuad x = .error unwrittenRaise ∨ ∃ z, sourceQuad x = .ok z := by
  obtain ⟨a, b, c, d⟩ := x
  cases a with
  | none => exact .inl rfl
  | some a =>
    cases b with
    | none => exact .inl rfl
    | some b =>
      cases c with
      | none => exact .inl rfl
      | some c =>
        cases d with
        | none => exact .inl rfl
        | some d => exact .inr ⟨⟨a, b, c, d⟩, rfl⟩

/-- CAVG reads its eight sources, in two groups, before it looks at any (R173, R270). -/
theorem sourceQuad_bind_unwritten {α β : Type} {x : Quad (Option α)} {f : Quad α → Checked β}
    (h : sourceQuad x = .error unwrittenRaise ∨ ∀ z, f z = .error unwrittenRaise) :
    (sourceQuad x >>= f) = .error unwrittenRaise := by
  rcases sourceQuad_cases x with hx | ⟨z, hz⟩
  · exact Checked.bind_error hx f
  · rw [hz, Checked.ok_bind]
    refine h.elim (fun hx => ?_) (fun hf => hf z)
    rw [hz] at hx
    cases hx

theorem pixelOf_of_le {idx : Byte} (h : idx.toNat ≤ 3) : ∃ p, pixelOf idx = some p := by
  have hidx : idx.toNat = 0 ∨ idx.toNat = 1 ∨ idx.toNat = 2 ∨ idx.toNat = 3 := by omega
  rcases hidx with h | h | h | h <;> simp [pixelOf, h]

theorem command_unwritten {s : State} (hs : Running s) {body : Checked State} (h : body = .error unwrittenRaise) :
    command s body = .next (s.raise unwrittenRaise) := by
  rw [h]
  exact command_error hs unwrittenRaise

/-- A single-stage command reads all its sources first (R270). -/
theorem exec_unwritten_single {i : Instr} (hwf : i.wellFormed = true) (hi : ¬ Composite i) {s : State}
    (hs : Running s) (h : ∃ x ∈ reads i, Unwritten s x) : exec i s = .next (s.raise unwrittenRaise) := by
  cases i with
  | fitsu width | fitss width =>
    refine command_unwritten hs (source_bind_unwritten (.inl ?_))
    simpa [reads, Unwritten] using h
  | getu width lsb | gets width lsb =>
    refine command_unwritten hs (source_bind_unwritten (.inl ?_))
    simpa [reads, Unwritten] using h
  | setu width lsb | sets width lsb =>
    have hvw : s.w = none ∨ s.v = none := by simpa [reads, Unwritten] using h
    exact command_unwritten hs (source_bind_unwritten (hvw.imp_right fun hv _ => source_bind_unwritten (.inl hv)))
  | cscf idx =>
    obtain ⟨p, hp⟩ := pixelOf_of_le (of_decide_eq_true hwf)
    refine command_unwritten hs ?_
    rw [pixel_of_pixelOf hp]
    refine Checked.bind_error (sourceRgb_unwritten ?_) _
    simpa [reads, hp, rgbRegs, Unwritten, State.number, rgbPart] using h
  | csci idx =>
    obtain ⟨p, hp⟩ := pixelOf_of_le (of_decide_eq_true hwf)
    refine command_unwritten hs ?_
    rw [pixel_of_pixelOf hp]
    refine Checked.bind_error (sourceYpp_unwritten ?_) _
    simpa [reads, hp, yppRegs, Unwritten, State.number, yppPart] using h
  | btf =>
    refine command_unwritten hs (Checked.bind_error (sourceQuad_unwritten ?_) _)
    simpa [reads, lumaRegs, Unwritten, State.number, yppPart, Quad.map, Quad.get] using h
  | bti =>
    refine command_unwritten hs (Checked.bind_error (sourceLuma_unwritten ?_) _)
    simpa [reads, Unwritten, State.number, sixPart] using h
  | cavg =>
    have hgroups : (s.ypp.topLeft.pb = none ∨ s.ypp.topRight.pb = none ∨ s.ypp.bottomLeft.pb = none ∨
        s.ypp.bottomRight.pb = none) ∨ (s.ypp.topLeft.pr = none ∨ s.ypp.topRight.pr = none ∨
        s.ypp.bottomLeft.pr = none ∨ s.ypp.bottomRight.pr = none) := by
      simpa [reads, chromaRegs, Unwritten, State.number, yppPart, Quad.get, or_assoc] using h
    exact command_unwritten hs <| sourceQuad_bind_unwritten <| hgroups.imp sourceQuad_unwritten fun hpr _ =>
      Checked.bind_error (sourceQuad_unwritten hpr) _
  | qdc =>
    refine command_unwritten hs (source_bind_unwritten (.inl ?_))
    simpa [reads, Unwritten, State.number, sixPart] using h
  | qac =>
    have hbcd : s.coef.b = none ∨ s.coef.c = none ∨ s.coef.d = none := by
      simpa [reads, Unwritten, State.number, sixPart] using h
    exact command_unwritten hs (sources_bind_unwritten hbcd)
  | crep | qch =>
    refine command_unwritten hs (Checked.bind_error (sourceChroma_unwritten ?_) _)
    simpa [reads, Unwritten, State.number, sixPart] using h
  | dqdc =>
    refine command_unwritten hs (source_bind_unwritten (.inl ?_))
    simpa [reads, Unwritten, sixPart] using h
  | dqac =>
    have hbcd : s.q.b = none ∨ s.q.c = none ∨ s.q.d = none := by simpa [reads, Unwritten, sixPart] using h
    exact command_unwritten hs (sources_bind_unwritten hbcd)
  | dqch =>
    refine command_unwritten hs (Checked.bind_error (sourceChroma_unwritten ?_) _)
    simpa [reads, Unwritten, sixPart] using h
  | pack =>
    refine command_unwritten hs (Checked.bind_error (sourceSix_unwritten ?_) _)
    simpa [reads, allQ, Unwritten, sixPart] using h
  | unpack =>
    refine command_unwritten hs (source_bind_unwritten (.inl ?_))
    simpa [reads, Unwritten] using h
  | encblk => exact absurd trivial hi
  | decblk => exact absurd trivial hi

end Sys2Proof.Machine

namespace Sys2Proof.Proofs

open Machine

/-- Settles O52: by the frame of single-stage commands, carried along the constituents of a composite. -/
theorem commandsWriteOnlyTheirDestinations : Obligations.CommandsWriteOnlyTheirDestinations := by
  unfold Obligations.CommandsWriteOnlyTheirDestinations
  intro i s t h
  obtain ⟨hagree, hconfig, hpending, hanswer, hfault⟩ := changesOnly_exec h
  exact ⟨hagree, hconfig, hpending, hanswer, hfault⟩

/-- Settles O54: the same update or the same fault on both cores, carried along the constituents of a composite. -/
theorem resultsDependOnlyOnSources : Obligations.ResultsDependOnlyOnSources := by
  unfold Obligations.ResultsDependOnlyOnSources
  intro i s s' t t' hs hfault hconfig hfree hagree ht ht'
  have h : SameInputs (reads i) s s' := ⟨hfault, hconfig, hfree, hagree⟩
  by_cases hi : Composite i
  · rw [exec_composite hi] at ht ht'
    obtain ⟨hknown, hwrites⟩ := sourcesKnown_constituents hi
    obtain ⟨hfault', hsame⟩ :=
      runCommands_sameInputs (fun _ hc => not_composite_of_mem_constituents hc) hknown hs h ht ht'
    exact ⟨hfault', fun hrun x hx => (hsame hrun).agree x (hwrites x hx)⟩
  · obtain ⟨hfault', hsame⟩ := exec_sameInputs hi (fun _ hx => hx) hs h ht ht'
    exact ⟨hfault', fun hrun x hx => (hsame hrun).agree x (List.mem_append_left _ hx)⟩

/-- Settles O55: a single-stage command reads all its sources before it does anything else. -/
theorem unwrittenSourceRaises : Obligations.UnwrittenSourceRaises := by
  unfold Obligations.UnwrittenSourceRaises
  intro i s x hwf hi hs hx hu
  exact exec_unwritten_single hwf hi hs ⟨x, hx, hu⟩

end Sys2Proof.Proofs
end

section
/-! PROOFS of the family 20_memory.md: the output contract. A codeword and its four bytes determine each other (R52,
R53), hence so do a sequence of codewords and its bytes (R55, R56); and block numbers with pixels count the positions of
a trimmed image (R56, R246), by division with remainder by the number of block columns and by 2. -/

namespace Sys2Proof.Machine

/-! ### The bytes of codewords (R52, R53, R55) -/

/-- The byte of a word above its low `k` bits is its value divided by `2 ^ k`. -/
theorem extractLsb'_eq_ofNat_div (cw : Word32) (k : Nat) :
    cw.extractLsb' k 8 = BitVec.ofNat 8 (cw.toNat / 2 ^ k) := by
  rw [BitVec.extractLsb', Nat.shiftRight_eq_div_pow]

theorem wireBytes_eq (cw : Word32) :
    wireBytes cw = ⟨BitVec.ofNat 8 (cw.toNat / 2 ^ 24), BitVec.ofNat 8 (cw.toNat / 2 ^ 16),
      BitVec.ofNat 8 (cw.toNat / 2 ^ 8), BitVec.ofNat 8 cw.toNat⟩ := by
  simp only [wireBytes, extractLsb'_eq_ofNat_div, pow_zero, Nat.div_one]

/-- Four bytes make a number below `2 ^ 32`, so `cwOfBytes` does not wrap. -/
theorem cwOfBytes_toNat (b : Quad Byte) :
    (cwOfBytes b).toNat = b.topLeft.toNat * 2 ^ 24 + b.topRight.toNat * 2 ^ 16 + b.bottomLeft.toNat * 2 ^ 8 +
      b.bottomRight.toNat := by
  have h0 := b.topLeft.isLt
  have h1 := b.topRight.isLt
  have h2 := b.bottomLeft.isLt
  have h3 := b.bottomRight.isLt
  rw [cwOfBytes, BitVec.toNat_ofNat, Nat.mod_eq_of_lt (by omega)]

@[simp] theorem cwOfBytes_wireBytes (cw : Word32) : cwOfBytes (wireBytes cw) = cw := by
  have hlt := cw.isLt
  apply BitVec.eq_of_toNat_eq
  rw [cwOfBytes_toNat, wireBytes_eq]
  simp only [BitVec.toNat_ofNat]
  omega

@[simp] theorem wireBytes_cwOfBytes (b : Quad Byte) : wireBytes (cwOfBytes b) = b := by
  obtain ⟨b0, b1, b2, b3⟩ := b
  rw [wireBytes_eq, cwOfBytes_toNat, Quad.mk.injEq]
  refine ⟨?_, ?_, ?_, ?_⟩ <;> bv_omega

theorem streamCodewords_streamBytes (cws : List Word32) : streamCodewords (streamBytes cws) = some cws := by
  induction cws with
  | nil => rfl
  | cons cw rest ih =>
    rw [streamBytes, streamCodewords, ih, Option.map_some, cwOfBytes_wireBytes]

/-! ### Trimmed dimensions (R56, R246 (1)) -/

theorem trimmed_eq (n : Nat) : trimmed n = 2 * (n / 2) := by
  unfold trimmed
  omega

@[simp] theorem trimmed_div_two (n : Nat) : trimmed n / 2 = n / 2 := by
  rw [trimmed_eq, Nat.mul_div_cancel_left _ Nat.two_pos]

theorem lt_trimmed_iff {x n : Nat} : x < trimmed n ↔ x / 2 < n / 2 := by
  rw [trimmed_eq]
  omega

theorem readerCount_trimmed (width height : Nat) :
    readerCount (trimmed width) (trimmed height) = blockCount (trimmed width) (trimmed height) := by
  have hround (n : Nat) : (trimmed n + 1) / 2 = trimmed n / 2 := by rw [trimmed_eq]; omega
  rw [readerCount, blockCount, hround, hround]

/-! ### Block numbers (R246 (2)) -/

theorem blockPosition_injective (width : Nat) : Function.Injective (blockPosition width) := by
  intro n n' h
  obtain ⟨hcol, hrow⟩ := Prod.mk.inj h
  rw [← Nat.mod_add_div n (width / 2), ← Nat.mod_add_div n' (width / 2), hcol, hrow]

/-- The blocks below the count lie within the block columns and the block rows. -/
theorem blockPosition_lt {width height n : Nat} (h : n < blockCount width height) :
    (blockPosition width n).1 < width / 2 ∧ (blockPosition width n).2 < height / 2 :=
  ⟨Nat.mod_lt _ (Nat.pos_of_lt_mul_right h), Nat.div_lt_of_lt_mul h⟩

/-- Every block column and block row of the image is that of a block below the count. -/
theorem exists_blockPosition_eq {width height col row : Nat} (hcol : col < width / 2) (hrow : row < height / 2) :
    ∃ n < blockCount width height, blockPosition width n = (col, row) := by
  have hpos : 0 < width / 2 := Nat.zero_lt_of_lt hcol
  refine ⟨col + width / 2 * row, Nat.add_mul_lt_mul_of_lt_of_lt hcol hrow, ?_⟩
  rw [blockPosition, Nat.add_mul_mod_self_left, Nat.mod_eq_of_lt hcol, Nat.add_mul_div_left _ _ hpos,
    Nat.div_eq_of_lt hcol, Nat.zero_add]

/-! ### The pixels of a block (R246 (3)) -/

theorem pixel_index_lt (p : Pixel) : p.index < 4 := by cases p <;> decide

theorem pixel_index_injective : Function.Injective Pixel.index := by
  intro p p'
  cases p <;> cases p' <;> decide

theorem exists_pixel_index_eq {k : Nat} (h : k < 4) : ∃ p : Pixel, p.index = k := by
  interval_cases k
  · exact ⟨.topLeft, rfl⟩
  · exact ⟨.topRight, rfl⟩
  · exact ⟨.bottomLeft, rfl⟩
  · exact ⟨.bottomRight, rfl⟩

/-- A pixel's column and row within its block are the two digits of its index. -/
theorem pixelPosition_eq (block : Nat × Nat) (p : Pixel) :
    pixelPosition block p = (2 * block.1 + p.index % 2, 2 * block.2 + p.index / 2) := by
  cases p <;> rfl

/-- A position determines its block, by halving, and its pixel, by the remainders. -/
theorem pixelPosition_eq_iff {block : Nat × Nat} {p : Pixel} {col row : Nat} :
    pixelPosition block p = (col, row) ↔
      block = (col / 2, row / 2) ∧ p.index = 2 * (row % 2) + col % 2 := by
  have hindex := pixel_index_lt p
  simp only [pixelPosition_eq, Prod.ext_iff]
  omega

theorem exists_pixelPosition_eq (col row : Nat) : ∃ p, pixelPosition (col / 2, row / 2) p = (col, row) := by
  obtain ⟨p, hp⟩ := exists_pixel_index_eq (show 2 * (row % 2) + col % 2 < 4 by omega)
  exact ⟨p, pixelPosition_eq_iff.mpr ⟨rfl, hp⟩⟩

/-- Block numbers and pixels at one position are the same. -/
theorem blockPixel_unique {width n n' : Nat} {p p' : Pixel}
    (h : pixelPosition (blockPosition width n) p = pixelPosition (blockPosition width n') p') : n = n' ∧ p = p' := by
  obtain ⟨hblock, hindex⟩ := pixelPosition_eq_iff.mp h
  obtain ⟨hblock', hindex'⟩ := pixelPosition_eq_iff.mp (Eq.refl (pixelPosition (blockPosition width n') p'))
  exact ⟨blockPosition_injective width (hblock.trans hblock'.symm),
    pixel_index_injective (hindex.trans hindex'.symm)⟩

theorem exists_blockPixel_eq {width height col row : Nat} (hcol : col < trimmed width) (hrow : row < trimmed height) :
    ∃ n p, n < blockCount (trimmed width) (trimmed height) ∧
      pixelPosition (blockPosition (trimmed width) n) p = (col, row) := by
  rw [lt_trimmed_iff, ← trimmed_div_two width] at hcol
  rw [lt_trimmed_iff, ← trimmed_div_two height] at hrow
  obtain ⟨n, hn, hblock⟩ := exists_blockPosition_eq hcol hrow
  obtain ⟨p, hp⟩ := exists_pixelPosition_eq col row
  exact ⟨n, p, hn, by rw [hblock, hp]⟩

/-- The pixels of the blocks below the count lie in the trimmed image. -/
theorem pixelPosition_lt_trimmed {width height n : Nat} (p : Pixel)
    (h : n < blockCount (trimmed width) (trimmed height)) :
    (pixelPosition (blockPosition (trimmed width) n) p).1 < trimmed width ∧
      (pixelPosition (blockPosition (trimmed width) n) p).2 < trimmed height := by
  obtain ⟨hx, hy⟩ := blockPosition_lt h
  obtain ⟨hblock, -⟩ := pixelPosition_eq_iff.mp (Eq.refl (pixelPosition (blockPosition (trimmed width) n) p))
  rw [hblock, trimmed_div_two] at hx hy
  exact ⟨lt_trimmed_iff.mpr hx, lt_trimmed_iff.mpr hy⟩

end Sys2Proof.Machine

namespace Sys2Proof.Proofs

open Machine

/-- Settles O59: the bytes are the digits of the codeword in base 256. -/
theorem wireBytesAreInverse : Obligations.WireBytesAreInverse := by
  unfold Obligations.WireBytesAreInverse
  exact ⟨wireBytes_eq, cwOfBytes_toNat, cwOfBytes_wireBytes, wireBytes_cwOfBytes, streamCodewords_streamBytes⟩

/-- Settles O60: a position is divided by 2 into its block and its pixel, and the block numbered in row-major order. -/
theorem blocksCoverTheTrimmedImage : Obligations.BlocksCoverTheTrimmedImage := by
  unfold Obligations.BlocksCoverTheTrimmedImage
  intro width height
  refine ⟨?cover, fun n p hn => pixelPosition_lt_trimmed p hn, readerCount_trimmed width height, ?even⟩
  case cover =>
    intro col row hcol hrow
    obtain ⟨n, p, hn, hp⟩ := exists_blockPixel_eq hcol hrow
    exact ⟨n, p, hn, hp, fun n' p' _ hp' => blockPixel_unique (hp'.trans hp.symm)⟩
  case even =>
    rw [trimmed_eq]
    omega

end Sys2Proof.Proofs
end

section
/-! PROOFS of the family 30_encoding.md, first part: decoding (R73 to R78). `DecodeCase` says once what a word decodes
to, by its four fields alone; the words a row of the opcode map matches are read by their fields as well. -/

namespace Sys2Proof.Machine

/-! ### What a word decodes to -/

/-- What a word with the fields `f` decodes to: its `op` is unknown, a field its format does not use is not zero, its
pixel index is above 3, or it is the word of a command (R78). -/
inductive DecodeCase (f : Fields) : Except Reject Instr → Prop where
  | unknownOp (hk : formatOf f.op.toNat = none) : DecodeCase f (.error (.unknownOp f.op))
  | unusedNotZero {k : Format} (hk : formatOf f.op.toNat = some k) (hz : ¬ UnusedZero k f) :
      DecodeCase f (.error .unusedFieldNotZero)
  | indexAbove3 (hk : formatOf f.op.toNat = some .x) (hz : UnusedZero .x f) (hidx : 3 < f.idx.toNat) :
      DecodeCase f (.error (.pixelIndexAbove3 f.idx))
  | command {k : Format} {i : Instr} (hk : formatOf f.op.toNat = some k) (hz : UnusedZero k f)
      (hidx : k = .x → f.idx.toNat ≤ 3) (hi : fieldsOf (encode i) = f) : DecodeCase f (.ok i)

theorem decodeZ_case {i : Instr} {f : Fields} (hk : formatOf f.op.toNat = some .z)
    (hi : fieldsOf (encode i) = ⟨f.op, 0, 0, 0⟩) : DecodeCase f (decodeZ i f) := by
  unfold decodeZ
  split
  next hz =>
    refine .command hk hz nofun ?_
    show _ = Fields.mk f.op f.width f.lsb f.idx
    rw [hi, hz.1, hz.2.1, hz.2.2]
  next hz => exact .unusedNotZero hk hz

theorem decodeX_case {mk : Byte → Instr} {f : Fields} (hk : formatOf f.op.toNat = some .x)
    (hmk : ∀ idx, fieldsOf (encode (mk idx)) = ⟨f.op, 0, 0, idx⟩) : DecodeCase f (decodeX mk f) := by
  unfold decodeX
  split
  next hz =>
    split
    next hidx =>
      refine .command hk hz (fun _ => hidx) ?_
      show _ = Fields.mk f.op f.width f.lsb f.idx
      rw [hmk, hz.1, hz.2]
    next hidx => exact .indexAbove3 hk hz (Nat.lt_of_not_le hidx)
  next hz => exact .unusedNotZero hk hz

theorem decodeF_case {mk : Byte → Instr} {f : Fields} (hk : formatOf f.op.toNat = some .f)
    (hmk : ∀ width, fieldsOf (encode (mk width)) = ⟨f.op, width, 0, 0⟩) : DecodeCase f (decodeF mk f) := by
  unfold decodeF
  split
  next hz =>
    refine .command hk hz nofun ?_
    show _ = Fields.mk f.op f.width f.lsb f.idx
    rw [hmk, hz.1, hz.2]
  next hz => exact .unusedNotZero hk hz

theorem decodeB_case {mk : Byte → Byte → Instr} {f : Fields} (hk : formatOf f.op.toNat = some .b)
    (hmk : ∀ width lsb, fieldsOf (encode (mk width lsb)) = ⟨f.op, width, lsb, 0⟩) :
    DecodeCase f (decodeB mk f) := by
  unfold decodeB
  split
  next hz =>
    refine .command hk hz nofun ?_
    show _ = Fields.mk f.op f.width f.lsb f.idx
    rw [hmk, hz]
  next hz => exact .unusedNotZero hk hz

/-- A word from four bytes, its `op` given by its number. -/
theorem fieldsOf_wordOf_toNat {op op' : Byte} (h : op'.toNat = op.toNat) (width lsb idx : Byte) :
    fieldsOf (wordOf op width lsb idx) = ⟨op', width, lsb, idx⟩ := by
  rw [BitVec.eq_of_toNat_eq h, fieldsOf_wordOf]

theorem decode_case (w : Word32) : DecodeCase (fieldsOf w) (decode w) := by
  unfold decode
  dsimp only
  split
  case h_1 hop | h_2 hop =>
    exact decodeF_case (by rw [hop]; rfl) fun _ => fieldsOf_wordOf_toNat hop _ _ _
  case h_3 hop | h_4 hop | h_5 hop | h_6 hop =>
    exact decodeB_case (by rw [hop]; rfl) fun _ _ => fieldsOf_wordOf_toNat hop _ _ _
  case h_7 hop | h_8 hop =>
    exact decodeX_case (by rw [hop]; rfl) fun _ => fieldsOf_wordOf_toNat hop _ _ _
  case h_23 =>
    simp only [imp_false] at *
    exact .unknownOp (by simp [formatOf, *])
  all_goals
    rename_i hop
    exact decodeZ_case (by rw [hop]; rfl) (fieldsOf_wordOf_toNat hop _ _ _)

/-- A word decodes to a command only if it is that command's word (R73, R78). -/
theorem encode_of_decode {w : Word32} {i : Instr} (h : decode w = .ok i) : encode i = w := by
  have hcase := decode_case w
  rw [h] at hcase
  cases hcase with
  | command _ _ _ hi => exact eq_of_fieldsOf_eq hi

/-! ### Illegal words -/

theorem illegalWord_iff (w : Word32) :
    IllegalWord w ↔ ∀ k, formatOf (fieldsOf w).op.toNat = some k →
      ¬ UnusedZero k (fieldsOf w) ∨ (k = .x ∧ 3 < (fieldsOf w).idx.toNat) := by
  unfold IllegalWord
  cases formatOf (fieldsOf w).op.toNat <;> simp

theorem illegalWord_iff_decode_error (w : Word32) : IllegalWord w ↔ ∃ r, decode w = .error r := by
  rw [illegalWord_iff]
  have hcase := decode_case w
  generalize decode w = o at hcase ⊢
  cases hcase with
  | unknownOp hk => exact iff_of_true (fun k hk' => nomatch hk.symm.trans hk') ⟨_, rfl⟩
  | unusedNotZero hk hz =>
    exact iff_of_true (fun k hk' => .inl (Option.some.inj (hk.symm.trans hk') ▸ hz)) ⟨_, rfl⟩
  | indexAbove3 hk hz hidx =>
    exact iff_of_true (fun k hk' => .inr ⟨(Option.some.inj (hk.symm.trans hk')).symm, hidx⟩) ⟨_, rfl⟩
  | command hk hz hidx _ =>
    refine iff_of_false (fun h => ?_) nofun
    rcases h _ hk with hz' | ⟨rfl, hidx'⟩
    · exact hz' hz
    · exact absurd (hidx rfl) (Nat.not_le_of_lt hidx')

theorem decode_ok_of_not_illegalWord {w : Word32} (h : ¬ IllegalWord w) : ∃ i, decode w = .ok i := by
  rw [illegalWord_iff_decode_error] at h
  cases hw : decode w with
  | ok i => exact ⟨i, rfl⟩
  | error r => exact absurd ⟨r, hw⟩ h

/-- A running core raises ILLEGAL_CMD for a word that does not decode (R74, R78). -/
theorem hostCommand_of_decode_error {w : Word32} {r : Reject} (h : decode w = .error r) {s : State} (hs : Running s) :
    hostCommand w s = .next (s.raise ⟨.illegalCmd, 0⟩) := by
  simp only [hostCommand, h, command_error hs]

/-! ### Operand fields outside the precondition (R130) -/

/-- FITSU and FITSS with `V` written raise PRECONDITION for a bad width (R131, R132). -/
theorem exec_fits_badWidth {s : State} (hs : Running s) {v : Word64} (hv : s.v = some v) {width : Byte}
    (hbad : widthOk width = false) {i : Instr} (hi : i = .fitsu width ∨ i = .fitss width) :
    exec i s = .next (s.raise ⟨.precondition, 0⟩) := by
  rcases hi with rfl | rfl
  · simp [exec, execFitsu, command, hs, hv, hbad]
  · simp [exec, execFitss, command, hs, hv, hbad]

/-- The gets and sets with `V` and `W` written raise PRECONDITION for a bad span, the sets before any fits test (R133 to
R136, R139). -/
theorem exec_getSet_badSpan {s : State} (hs : Running s) {v w : Word64} (hv : s.v = some v) (hw : s.w = some w)
    {width lsb : Byte} (hbad : spanOk width lsb = false) {i : Instr}
    (hi : i = .getu width lsb ∨ i = .gets width lsb ∨ i = .setu width lsb ∨ i = .sets width lsb) :
    exec i s = .next (s.raise ⟨.precondition, 0⟩) := by
  rcases hi with rfl | rfl | rfl | rfl
  · simp [exec, execGetu, command, hs, hw, hbad]
  · simp [exec, execGets, command, hs, hw, hbad]
  · simp [exec, execSetu, command, hs, hw, hv, hbad]
  · simp [exec, execSets, command, hs, hw, hv, hbad]

/-! ### The rows of the opcode map -/

/-- The `mask` column of R76, by the format of the row (R75). -/
def formatMask : Format → Word32
  | .z => wordOf 0xFF 0xFF 0xFF 0xFF
  | .x => wordOf 0xFF 0xFF 0xFF 0x00
  | .f => wordOf 0xFF 0x00 0xFF 0xFF
  | .b => wordOf 0xFF 0x00 0x00 0xFF

/-- The `op` of a row. -/
def rowOp (row : OpcodeRow) : Byte := (fieldsOf row.pattern).op

/-- A row's `match` column is its `op`, the other fields zero, and its `mask` column that of its format (R76). -/
theorem row_eq {row : OpcodeRow} (h : row ∈ opcodeMap) :
    row.pattern = wordOf (rowOp row) 0 0 0 ∧ (formatOf (rowOp row).toNat).map formatMask = some row.mask := by
  revert row
  decide

theorem row_eq_of_rowOp_eq {row row' : OpcodeRow} (h : row ∈ opcodeMap) (h' : row' ∈ opcodeMap)
    (hop : rowOp row = rowOp row') : row = row' :=
  List.inj_on_of_nodup_map (f := rowOp) (by decide) h h' hop

theorem fieldsOf_and (w m : Word32) :
    fieldsOf (w &&& m) = ⟨(fieldsOf w).op &&& (fieldsOf m).op, (fieldsOf w).width &&& (fieldsOf m).width,
      (fieldsOf w).lsb &&& (fieldsOf m).lsb, (fieldsOf w).idx &&& (fieldsOf m).idx⟩ := by
  simp only [fieldsOf, BitVec.extractLsb'_and]

theorem fieldsOf_inj {w w' : Word32} : fieldsOf w = fieldsOf w' ↔ w = w' := ⟨eq_of_fieldsOf_eq, congrArg _⟩

/-- Under the mask of a format a word is an `op` and zeros exactly when it has that `op` and the fields the format does
not use are zero (R75, R76). -/
theorem and_formatMask_eq_iff (w : Word32) (k : Format) (op : Byte) :
    w &&& formatMask k = wordOf op 0 0 0 ↔ (fieldsOf w).op = op ∧ UnusedZero k (fieldsOf w) := by
  have hff (x : Byte) : x &&& 255#8 = x := BitVec.and_allOnes
  rw [← fieldsOf_inj, fieldsOf_and]
  cases k <;> simp [formatMask, fieldsOf_wordOf, UnusedZero, hff]

/-- A word matches a row exactly when it has the row's `op` and the fields its format does not use are zero (R76). -/
theorem matches_iff (w : Word32) {row : OpcodeRow} (h : row ∈ opcodeMap) :
    w &&& row.mask = row.pattern ↔
      (fieldsOf w).op = rowOp row ∧ ∃ k, formatOf (fieldsOf w).op.toNat = some k ∧ UnusedZero k (fieldsOf w) := by
  obtain ⟨hpattern, hmask⟩ := row_eq h
  obtain ⟨k, hk, hmask⟩ := Option.map_eq_some_iff.mp hmask
  rw [hpattern, ← hmask, and_formatMask_eq_iff]
  refine and_congr_right fun hop => ?_
  rw [hop, hk]
  simp

theorem opcodeBits_statement (i : Instr) : Laws.OpcodeBits.Statement i := by
  cases i with
  | fitsu width => exact Laws.OpcodeBits.fitsu width
  | fitss width => exact Laws.OpcodeBits.fitss width
  | getu width lsb => exact Laws.OpcodeBits.getu width lsb
  | gets width lsb => exact Laws.OpcodeBits.gets width lsb
  | setu width lsb => exact Laws.OpcodeBits.setu width lsb
  | sets width lsb => exact Laws.OpcodeBits.sets width lsb
  | cscf idx => exact Laws.OpcodeBits.cscf idx
  | csci idx => exact Laws.OpcodeBits.csci idx
  | btf => exact Laws.OpcodeBits.btf
  | bti => exact Laws.OpcodeBits.bti
  | cavg => exact Laws.OpcodeBits.cavg
  | crep => exact Laws.OpcodeBits.crep
  | qdc => exact Laws.OpcodeBits.qdc
  | qac => exact Laws.OpcodeBits.qac
  | qch => exact Laws.OpcodeBits.qch
  | dqdc => exact Laws.OpcodeBits.dqdc
  | dqac => exact Laws.OpcodeBits.dqac
  | dqch => exact Laws.OpcodeBits.dqch
  | pack => exact Laws.OpcodeBits.pack
  | unpack => exact Laws.OpcodeBits.unpack
  | encblk => exact Laws.OpcodeBits.encblk
  | decblk => exact Laws.OpcodeBits.decblk

/-- A command has a row: of its mnemonic, and with the `op` of its word (R76). -/
theorem exists_row (i : Instr) :
    ∃ row ∈ opcodeMap, row.mnemonic = i.mnemonic ∧ rowOp row = (fieldsOf (encode i)).op := by
  obtain ⟨hfields, row, hrow, hname, hop⟩ := opcodeBits_statement i
  exact ⟨row, hrow, hname, by rw [hfields]; exact hop⟩

/-- A word that decodes matches the row of its command (R76). -/
theorem matches_of_decode {w : Word32} {i : Instr} (h : decode w = .ok i) :
    ∃ row ∈ opcodeMap, row.mnemonic = i.mnemonic ∧ w &&& row.mask = row.pattern := by
  obtain ⟨row, hrow, hname, hop⟩ := exists_row i
  rw [encode_of_decode h] at hop
  refine ⟨row, hrow, hname, (matches_iff w hrow).mpr ⟨hop.symm, ?_⟩⟩
  have hcase := decode_case w
  rw [h] at hcase
  cases hcase with
  | command hk hz _ _ => exact ⟨_, hk, hz⟩

/-- No word matches two rows (R76). -/
theorem row_eq_of_matches {w : Word32} {row row' : OpcodeRow} (h : row ∈ opcodeMap) (h' : row' ∈ opcodeMap)
    (hm : w &&& row.mask = row.pattern) (hm' : w &&& row'.mask = row'.pattern) : row = row' := by
  obtain ⟨hop, -⟩ := (matches_iff w h).mp hm
  obtain ⟨hop', -⟩ := (matches_iff w h').mp hm'
  exact row_eq_of_rowOp_eq h h' (hop.symm.trans hop')

/-- The rows of format X are those of CSCF and CSCI (R76). -/
theorem mnemonic_of_formatX {row : OpcodeRow} (h : row ∈ opcodeMap) (hk : formatOf (rowOp row).toNat = some .x) :
    row.mnemonic = "CSCF" ∨ row.mnemonic = "CSCI" := by
  revert row
  decide

/-- A word that matches a row decodes to a command of the row, or has a pixel index above 3 (R76, R78). -/
theorem decode_of_matches {w : Word32} {row : OpcodeRow} (h : row ∈ opcodeMap) (hm : w &&& row.mask = row.pattern) :
    (∃ i, decode w = .ok i ∧ i.mnemonic = row.mnemonic) ∨
      ((row.mnemonic = "CSCF" ∨ row.mnemonic = "CSCI") ∧
        ∃ x, decode w = .error (.pixelIndexAbove3 x) ∧ 3 < x.toNat) := by
  obtain ⟨hop, k, hk, hz⟩ := (matches_iff w h).mp hm
  have hcase := decode_case w
  cases hw : decode w with
  | ok i =>
    obtain ⟨row', hrow', hname, hm'⟩ := matches_of_decode hw
    exact .inl ⟨i, rfl, row_eq_of_matches h hrow' hm hm' ▸ hname.symm⟩
  | error r =>
    rw [hw] at hcase
    cases hcase with
    | unknownOp hk' => exact nomatch hk'.symm.trans hk
    | unusedNotZero hk' hz' => exact absurd (Option.some.inj (hk'.symm.trans hk) ▸ hz) hz'
    | indexAbove3 hk' _ hidx => exact .inr ⟨mnemonic_of_formatX h (hop ▸ hk'), _, rfl, hidx⟩

end Sys2Proof.Machine

namespace Sys2Proof.Proofs

open Machine

/-- Settles O1: the decoder run on each word. -/
theorem knownCommandWordsDecode : Obligations.KnownCommandWordsDecode := by
  unfold Obligations.KnownCommandWordsDecode
  decide

/-- Settles O2: each arm of the decoder reads back the fields that the encoder placed. -/
theorem decodeOfEncode : Obligations.DecodeOfEncode := by
  unfold Obligations.DecodeOfEncode
  exact fun _ => decode_encode

/-- Settles O3: a word and its command's word have the same four fields. -/
theorem decodedWordIsItsEncoding : Obligations.DecodedWordIsItsEncoding := by
  unfold Obligations.DecodedWordIsItsEncoding
  exact fun _ _ h => ⟨wellFormed_of_decode h, encode_of_decode h⟩

/-- Settles O4: a row is matched by its `op` and the fields its format leaves unused, as the decoder reads them. -/
theorem decodeFollowsTheOpcodeMap : Obligations.DecodeFollowsTheOpcodeMap := by
  unfold Obligations.DecodeFollowsTheOpcodeMap
  exact fun w => ⟨fun _ => matches_of_decode, fun _ => decode_of_matches, fun _ h _ h' => row_eq_of_matches h h'⟩

/-- Settles O5: the illegal words are those that do not decode; a command with a bad width or span raises when it
runs. -/
theorem illegalCommandWordsExactly : Obligations.IllegalCommandWordsExactly := by
  unfold Obligations.IllegalCommandWordsExactly
  intro w
  refine ⟨illegalWord_iff_decode_error w, ?raises, ?selects, ?preconditions⟩
  case raises =>
    intro s hs hill
    obtain ⟨r, hr⟩ := (illegalWord_iff_decode_error w).mp hill
    exact hostCommand_of_decode_error hr hs
  case selects =>
    intro hlegal
    obtain ⟨i, hi⟩ := decode_ok_of_not_illegalWord hlegal
    exact ⟨i, hi, hostCommand_of_decode hi⟩
  case preconditions =>
    intro s i v w' hs hdec hv hw
    rw [hostCommand_of_decode hdec]
    refine ⟨fun width hi hbad => ?_, fun width lsb hi hbad => ?_⟩
    · exact exec_fits_badWidth hs hv (decide_eq_false hbad) hi
    · exact exec_getSet_badSpan hs hv hw (decide_eq_false fun h => hbad ⟨h.1, h.2.2⟩) hi

end Sys2Proof.Proofs
end

section
/-! PROOFS of the family 30_encoding.md, second part: PACK and UNPACK (R220 to R222), and commands that fault (R266).
The sets of PACK go from the top field down, so each adds its field to a multiple of a higher power of 2, and the sum is
the formula of R71. -/

namespace Sys2Proof.Machine

/-! ### The word that PACK builds -/

/-- Setting a span of a word that is zero in it and below it adds the value at the span's place (R135). -/
theorem setUnsigned_ofNat_add {n width lsb value : Nat} (hn : 2 ^ (lsb + width) ∣ n) (hv : value < 2 ^ width) :
    setUnsigned (BitVec.ofNat 64 n) width lsb value = BitVec.ofNat 64 (n + value * 2 ^ lsb) := by
  obtain ⟨m, rfl⟩ := hn
  have hsum : 2 ^ (lsb + width) * m + value * 2 ^ lsb = 2 ^ lsb * (2 ^ width * m + value) := by ring
  refine BitVec.eq_of_getLsbD_eq fun i hi => ?_
  rw [setUnsigned_getLsbD _ lsb hi hv, hsum, BitVec.getLsbD_ofNat, BitVec.getLsbD_ofNat, Nat.testBit_two_pow_mul,
    Nat.testBit_two_pow_mul, Nat.testBit_two_pow_mul_add _ hv]
  by_cases hlo : lsb ≤ i
  · by_cases hhi : i < lsb + width
    · simp [hi, hlo, hhi, show i - lsb < width by omega]
    · simp [hi, hlo, hhi, show ¬ i - lsb < width by omega, show lsb + width ≤ i by omega, Nat.sub_add_eq]
  · simp [hlo, show ¬ lsb + width ≤ i by omega]

theorem packWord_eq {q : Six Word64} (h : FieldsFit q) :
    packWord q = BitVec.ofNat 64
      (codeword q.a.toNat q.b.toInt q.c.toInt q.d.toInt q.pb.toNat q.pr.toNat) := by
  obtain ⟨ha, -, -, -, hpb, hpr⟩ := h
  have hb := emod_toNat_lt (i64 q.b) 5
  have hc := emod_toNat_lt (i64 q.c) 5
  have hd := emod_toNat_lt (i64 q.d) 5
  unfold packWord setSigned
  dsimp only
  rw [show (0 : Word64) = BitVec.ofNat 64 0 from rfl, setUnsigned_ofNat_add (by omega) (by omega),
    setUnsigned_ofNat_add (by omega) hb, setUnsigned_ofNat_add (by omega) hc, setUnsigned_ofNat_add (by omega) hd,
    setUnsigned_ofNat_add (by omega) (by omega), setUnsigned_ofNat_add (by omega) (by omega)]
  simp only [codeword, i64]
  norm_num

theorem fieldsFit_eq_ok {q : Six Word64} (h : FieldsFit q) : fieldsFit q = .ok () := by
  obtain ⟨ha, ⟨hb, hb'⟩, ⟨hc, hc'⟩, ⟨hd, hd'⟩, hpb, hpr⟩ := h
  have hunsigned {x : Word64} (width : Nat) (hx : x.toNat < 2 ^ width) : fitsUnsigned (u64 x) width = true := by
    rw [u64, fitsUnsigned_natCast]
    exact decide_eq_true hx
  have hsigned {x : Word64} (hlo : -16 ≤ x.toInt) (hhi : x.toInt ≤ 15) : fitsSigned (i64 x) 5 = true :=
    fitsSigned_eq_true.mpr ⟨hlo, Int.lt_of_le_sub_one hhi⟩
  simp only [fieldsFit, hunsigned 9 (Nat.lt_succ_of_le ha), hsigned hb hb', hsigned hc hc', hsigned hd hd',
    hunsigned 4 (Nat.lt_succ_of_le hpb), hunsigned 4 (Nat.lt_succ_of_le hpr), inRange_true, Checked.ok_bind]

theorem execPack_eq {s : State} {q : Six Word64} (hs : Running s) (hq : s.q = q.map some) (hfit : FieldsFit q) :
    execPack s = .next ((s.setW (packWord q)).setCw ((packWord q).setWidth 32)) := by
  simp [execPack, command, hs, sourceSix_eq_ok.mpr hq, fieldsFit_eq_ok hfit]

/-! ### The fields that UNPACK takes -/

/-- A field of a codeword, by division with remainder (R133). -/
theorem getUnsigned_setWidth (cw : Word32) (width lsb : Nat) :
    getUnsigned (cw.setWidth 64) width lsb = cw.toNat / 2 ^ lsb % 2 ^ width := by
  rw [getUnsigned, Nat.shiftRight_eq_div_pow, BitVec.toNat_setWidth_of_le (by decide)]

theorem getSigned_five (word : Word64) (lsb : Nat) : getSigned word 5 lsb = signed5 (getUnsigned word 5 lsb) := rfl

theorem unpackWord_eq (cw : Word32) :
    unpackWord (cw.setWidth 64) =
      { a := BitVec.ofNat 64 (cw.toNat / 2 ^ 23)
        b := BitVec.ofInt 64 (signed5 (cw.toNat / 2 ^ 18 % 32))
        c := BitVec.ofInt 64 (signed5 (cw.toNat / 2 ^ 13 % 32))
        d := BitVec.ofInt 64 (signed5 (cw.toNat / 2 ^ 8 % 32))
        pb := BitVec.ofNat 64 (cw.toNat / 2 ^ 4 % 16)
        pr := BitVec.ofNat 64 (cw.toNat % 16) } := by
  have hlt := cw.isLt
  have ha : cw.toNat / 2 ^ 23 % 2 ^ 9 = cw.toNat / 2 ^ 23 := Nat.mod_eq_of_lt (by omega)
  simp only [unpackWord, getSigned_five, getUnsigned_setWidth, ha, pow_zero, Nat.div_one, zext64, sext64]
  norm_num

theorem execUnpack_eq {s : State} {cw : Word32} (hs : Running s) (hcw : s.cw = some cw) :
    execUnpack s = .next ((s.setW (cw.setWidth 64)).setQAll (unpackWord (cw.setWidth 64))) := by
  simp [execUnpack, command, hs, hcw]

end Sys2Proof.Machine

namespace Sys2Proof.Proofs

open Machine

/-- Settles O43: the six sets, from the top field down, add up to the formula of R71. -/
theorem packBuildsTheCodeword : Obligations.PackBuildsTheCodeword := by
  unfold Obligations.PackBuildsTheCodeword
  intro s q hs hq hfit
  refine (execPack_eq hs hq hfit).trans ?_
  rw [packWord_eq hfit, BitVec.setWidth_ofNat_of_le (by decide)]
  rfl

/-- Settles O45: the six fields are quotients and remainders of the codeword. -/
theorem unpackTakesTheFields : Obligations.UnpackTakesTheFields := by
  unfold Obligations.UnpackTakesTheFields
  intro s cw hs hcw
  refine (execUnpack_eq hs hcw).trans ?_
  rw [unpackWord_eq]
  rfl

/-- Settles O53: a command that writes its destinations leaves `FAULT`, and with it the core running, so one that halts
the core is a raise. -/
theorem faultingCommandWritesOnlyFault : Obligations.FaultingCommandWritesOnlyFault := by
  unfold Obligations.FaultingCommandWritesOnlyFault
  intro i s t hi hs h ht
  have hself : SameInputs (reads i) s s := ⟨rfl, rfl, .inr rfl, fun x _ => agree_refl s x⟩
  obtain ⟨g, ho, -, hg⟩ := exec_alike_single hi hs hself
  obtain rfl : g s = t := Host.Outcome.next.inj (ho.symm.trans h)
  rcases hg with hg | ⟨e, rfl⟩
  · rw [State.halted_congr (hg.fault s), hs] at ht
    cases ht
  · rfl

end Sys2Proof.Proofs
end

section
/-! PROOFS of the family 40_numerics.md, first part: rounding (R105, R107). A number is measured in steps of the grid at
it: rounding takes the nearest whole number of steps, and every value of the grid is a whole number of steps or lies
below the power of two that the number reaches. -/

namespace Sys2Proof.Machine

/-! ### The nearest integer -/

/-- A whole number below `x` is not above the integer nearest to `x`. -/
theorem le_nearestEven {x : Rat} {m : Int} (h : (m : Rat) ≤ x) : m ≤ nearestEven x := by
  have hnear := (abs_le.mp (abs_sub_nearestEven_le x)).2
  have hlt : (m : Rat) < (nearestEven x + 1 : Int) := by push_cast; linarith
  exact Int.lt_add_one_iff.mp (Int.cast_lt.mp hlt)

/-- A whole number above `x` is not below the integer nearest to `x`. -/
theorem nearestEven_le {x : Rat} {m : Int} (h : x ≤ m) : nearestEven x ≤ m := by
  have hneg := le_nearestEven (x := -x) (m := -m) (by push_cast; linarith)
  rw [nearestEven_neg] at hneg
  exact neg_le_neg_iff.mp hneg

@[simp] theorem nearestEven_intCast (m : Int) : nearestEven (m : Rat) = m :=
  le_antisymm (nearestEven_le le_rfl) (le_nearestEven le_rfl)

/-- Another integer than the nearest one is at least half away. -/
theorem half_le_abs_sub_of_ne {x : Rat} {m : Int} (h : m ≠ nearestEven x) : 1 / 2 ≤ |x - m| := by
  have hone : (1 : Rat) ≤ |(nearestEven x : Rat) - m| := by
    exact_mod_cast Int.one_le_abs (sub_ne_zero.mpr h.symm)
  have htri := abs_sub_le (nearestEven x : Rat) x m
  have hnear := abs_sub_nearestEven_le x
  rw [abs_sub_comm] at hnear
  linarith

/-- No integer is nearer (R107). -/
theorem abs_sub_nearestEven_le_abs_sub (x : Rat) (m : Int) : |x - nearestEven x| ≤ |x - m| := by
  by_cases h : m = nearestEven x
  · rw [h]
  · exact (abs_sub_nearestEven_le x).trans (half_le_abs_sub_of_ne h)

/-- Midway between two integers the even one is taken (R107). -/
theorem even_nearestEven {x : Rat} (h : 1 / 2 ≤ |x - nearestEven x|) : Even (nearestEven x) := by
  have hlo := Int.floor_le x
  have hhi := Int.lt_floor_add_one x
  unfold nearestEven at h ⊢
  split_ifs at h ⊢ with hlow hhigh heven
  · rw [abs_of_nonneg (by linarith)] at h
    linarith
  · push_cast at h
    rw [abs_of_neg (by linarith)] at h
    linarith
  · exact Int.even_iff.mpr heven
  · exact Int.even_add_one.mpr fun hev => heven (Int.even_iff.mp hev)

theorem abs_nearestEven (x : Rat) : |nearestEven x| = nearestEven |x| := by
  rcases le_total 0 x with h | h
  · rw [abs_of_nonneg h, abs_of_nonneg (le_nearestEven (by simpa using h))]
  · rw [abs_of_nonpos h, nearestEven_neg, abs_of_nonpos (nearestEven_le (by simpa using h))]

/-! ### The grid around a number -/

/-- The exponent of the grid's step at `x` (R107). -/
def gridExp (x : Rat) : Int := max (Int.log 2 |x| - 23) (-149)

theorem gridStep_eq (x : Rat) : gridStep x = (2 : Rat) ^ gridExp x := by
  unfold gridStep gridExp
  split_ifs with h
  · rw [max_eq_left (by omega)]
  · rw [max_eq_right (by omega)]

theorem neg_149_le_gridExp (x : Rat) : -149 ≤ gridExp x := le_max_right _ _

theorem two_zpow_add (n : Nat) (e : Int) : (2 : Rat) ^ ((n : Int) + e) = 2 ^ n * 2 ^ e := by
  rw [zpow_add₀ two_ne_zero, zpow_natCast]

/-- A number is less than 2^24 steps of the grid from 0. -/
theorem abs_lt_gridStep (x : Rat) : |x| < 2 ^ 24 * gridStep x := by
  have hlog : |x| < (2 : Rat) ^ (Int.log 2 |x| + 1) := by
    exact_mod_cast Int.lt_zpow_succ_log_self (b := 2) (by norm_num) |x|
  have hexp : Int.log 2 |x| + 1 ≤ (24 : Nat) + gridExp x := by
    have := le_max_left (Int.log 2 |x| - 23) (-149)
    simp only [gridExp]
    omega
  rw [gridStep_eq, ← two_zpow_add]
  exact hlog.trans_le (zpow_le_zpow_right₀ one_le_two hexp)

/-- A number of the normal range is 2^23 steps of the grid or more from 0. -/
theorem gridStep_le_abs {x : Rat} (hx : x ≠ 0) (h : -149 < gridExp x) : 2 ^ 23 * gridStep x ≤ |x| := by
  have hlog : (2 : Rat) ^ Int.log 2 |x| ≤ |x| := by
    exact_mod_cast Int.zpow_log_le_self (b := 2) (by norm_num) (abs_pos.mpr hx)
  have hexp : (23 : Nat) + gridExp x = Int.log 2 |x| := by
    unfold gridExp at h ⊢
    omega
  rwa [gridStep_eq, ← two_zpow_add, hexp]

/-- The values of the grid are the multiples, by integers below 2^24, of its powers of two (R105). -/
theorem onGrid_iff {x : Rat} :
    OnGrid x ↔ ∃ m e : Int, |m| < 2 ^ 24 ∧ -149 ≤ e ∧ e ≤ 104 ∧ x = m * (2 : Rat) ^ e := by
  constructor
  · rintro (rfl | ⟨m, e, -, hm, he, he', hx⟩)
    · exact ⟨0, 0, by norm_num, by norm_num, by norm_num, by norm_num⟩
    · rcases abs_choice x with h | h
      · exact ⟨m, e, by rw [Nat.abs_cast]; exact_mod_cast hm, he, he', by rw [← h, hx]; push_cast; rfl⟩
      · refine ⟨-m, e, by rw [abs_neg, Nat.abs_cast]; exact_mod_cast hm, he, he', ?_⟩
        push_cast
        rw [neg_mul, ← hx, h, neg_neg]
  · rintro ⟨m, e, hm, he, he', rfl⟩
    by_cases h0 : m = 0
    · exact .inl (by rw [h0, Int.cast_zero, zero_mul])
    · refine .inr ⟨m.natAbs, e, Int.natAbs_pos.mpr h0, by rw [Int.abs_eq_natAbs] at hm; omega, he, he', ?_⟩
      rw [abs_mul, abs_of_pos (by positivity : (0 : Rat) < 2 ^ e), Nat.cast_natAbs, Int.cast_abs]

theorem onGrid_zero : OnGrid 0 := .inl rfl

theorem onGrid_neg {x : Rat} (h : OnGrid x) : OnGrid (-x) := by
  unfold OnGrid at h ⊢
  rwa [neg_eq_zero, abs_neg]

/-- A value of the grid is a multiple of the step at `x`, or is nearer to 0 than `x`, in the normal range, can be. -/
theorem multiple_or_small_of_onGrid {z : Rat} (hz : OnGrid z) (x : Rat) :
    (∃ m : Int, z = m * gridStep x) ∨ (-149 < gridExp x ∧ |z| < 2 ^ 23 * gridStep x) := by
  obtain ⟨m, e, hm, he, -, rfl⟩ := onGrid_iff.mp hz
  rcases le_or_gt (gridExp x) e with h | h
  · obtain ⟨d, rfl⟩ : ∃ d : Nat, e = d + gridExp x := ⟨(e - gridExp x).toNat, by omega⟩
    refine .inl ⟨m * 2 ^ d, ?_⟩
    rw [gridStep_eq, two_zpow_add]
    push_cast
    ring
  · refine .inr ⟨by omega, ?_⟩
    have hm' : |(m : Rat)| < 2 ^ 24 := by exact_mod_cast hm
    have hpow : (2 : Rat) ^ (1 + e) ≤ 2 ^ gridExp x := zpow_le_zpow_right₀ one_le_two (by omega)
    rw [zpow_add₀ two_ne_zero, zpow_one] at hpow
    have hpos : (0 : Rat) < 2 ^ e := by positivity
    rw [abs_mul, abs_of_pos hpos, gridStep_eq]
    calc |(m : Rat)| * 2 ^ e < 2 ^ 24 * 2 ^ e := mul_lt_mul_of_pos_right hm' hpos
      _ = 2 ^ 23 * (2 * 2 ^ e) := by ring
      _ ≤ 2 ^ 23 * 2 ^ gridExp x := by gcongr

/-! ### Rounding to the grid -/

/-- The multiple of the grid's step nearest to `x`, even at a tie: what rounding answers unless it overflows (R107). -/
def gridNearest (x : Rat) : Rat := nearestEven (x / gridStep x) * gridStep x

@[simp] theorem gridNearest_zero : gridNearest 0 = 0 := by
  have hzero : nearestEven 0 = 0 := by exact_mod_cast nearestEven_intCast 0
  rw [gridNearest, zero_div, hzero, Int.cast_zero, zero_mul]

theorem roundBinary32_eq (x : Rat) :
    roundBinary32 x = if |gridNearest x| ≤ maxFinite then some (gridNearest x) else none := by
  by_cases h : x = 0
  · subst h
    norm_num [maxFinite]
  · unfold roundBinary32
    rw [if_neg h]
    rfl

theorem gridNearest_of_roundBinary32 {x y : Rat} (h : roundBinary32 x = some y) : gridNearest x = y := by
  rw [roundBinary32_eq] at h
  split at h
  · exact Option.some.inj h
  · cases h

/-- Distances from `x` measured in steps of the grid. -/
theorem abs_sub_mul_gridStep (x : Rat) (m : Int) :
    |x - m * gridStep x| = |x / gridStep x - m| * gridStep x := by
  have hpos := gridStep_pos x
  rw [← abs_of_pos hpos, ← abs_mul, abs_of_pos hpos, sub_mul, div_mul_cancel₀ x hpos.ne']

/-- No multiple of the step is nearer (R107). -/
theorem abs_sub_gridNearest_le (x : Rat) (m : Int) : |x - gridNearest x| ≤ |x - m * gridStep x| := by
  rw [gridNearest, abs_sub_mul_gridStep, abs_sub_mul_gridStep]
  exact mul_le_mul_of_nonneg_right (abs_sub_nearestEven_le_abs_sub _ m) (gridStep_pos x).le

/-- Of two multiples of the step equally near the even one is taken (R107). -/
theorem gridNearest_even {x : Rat} {m : Int} (hne : m * gridStep x ≠ gridNearest x)
    (h : |x - gridNearest x| = |x - m * gridStep x|) : ∃ k : Int, gridNearest x = 2 * k * gridStep x := by
  have hne' : m ≠ nearestEven (x / gridStep x) := fun he => hne (by rw [gridNearest, he])
  rw [gridNearest, abs_sub_mul_gridStep, abs_sub_mul_gridStep] at h
  have hdist := mul_right_cancel₀ (gridStep_pos x).ne' h
  obtain ⟨k, hk⟩ := even_nearestEven (hdist ▸ half_le_abs_sub_of_ne hne')
  refine ⟨k, ?_⟩
  rw [gridNearest, hk]
  push_cast
  ring

/-- A number nearer to 0 than the power of two at or below `|x|` is further from `x` than that power is. -/
theorem abs_sub_gridNearest_lt {x z : Rat} (hx : x ≠ 0) (hexp : -149 < gridExp x)
    (hz : |z| < 2 ^ 23 * gridStep x) : |x - gridNearest x| < |x - z| := by
  have hlow := gridStep_le_abs hx hexp
  obtain ⟨hz1, hz2⟩ := abs_lt.mp hz
  rcases le_total 0 x with h | h
  · have hnear := abs_sub_gridNearest_le x (2 ^ 23)
    rw [Int.cast_pow, Int.cast_ofNat] at hnear
    rw [abs_of_nonneg h] at hlow
    rw [abs_of_nonneg (a := x - 2 ^ 23 * gridStep x) (by linarith)] at hnear
    rw [abs_of_pos (a := x - z) (by linarith)]
    linarith
  · have hnear := abs_sub_gridNearest_le x (-2 ^ 23)
    rw [Int.cast_neg, Int.cast_pow, Int.cast_ofNat] at hnear
    rw [abs_of_nonpos h] at hlow
    rw [abs_of_nonpos (a := x - -2 ^ 23 * gridStep x) (by linarith)] at hnear
    rw [abs_of_neg (a := x - z) (by linarith)]
    linarith

/-- Rounding answers a nearest value of the grid, and of two equally near the even multiple of the step (R107). -/
theorem roundBinary32_nearest {x y z : Rat} (h : roundBinary32 x = some y) (hz : OnGrid z) :
    |x - y| ≤ |x - z| ∧ (z ≠ y → |x - y| = |x - z| → ∃ k : Int, y = 2 * k * gridStep x) := by
  by_cases hx : x = 0
  · subst hx
    obtain rfl : (0 : Rat) = y := Option.some.inj h
    exact ⟨by simp, fun _ _ => ⟨0, by simp⟩⟩
  · obtain rfl := gridNearest_of_roundBinary32 h
    rcases multiple_or_small_of_onGrid hz x with ⟨m, rfl⟩ | ⟨hexp, hsmall⟩
    · exact ⟨abs_sub_gridNearest_le x m, gridNearest_even⟩
    · have hlt := abs_sub_gridNearest_lt hx hexp hsmall
      exact ⟨hlt.le, fun _ he => absurd he hlt.ne⟩

/-- The size of what rounding answers, in steps of the grid. -/
theorem abs_gridNearest (x : Rat) : |gridNearest x| = nearestEven (|x| / gridStep x) * gridStep x := by
  have hpos := gridStep_pos x
  rw [gridNearest, abs_mul, ← Int.cast_abs, abs_nearestEven, abs_div, abs_of_pos hpos]

/-- A number rounds to at most 2^24 steps of the grid, and in the normal range to at least 2^23 (R107). -/
theorem nearestEven_steps_le (x : Rat) : nearestEven (|x| / gridStep x) ≤ 2 ^ 24 :=
  nearestEven_le <| by
    push_cast
    exact ((div_lt_iff₀ (gridStep_pos x)).mpr (abs_lt_gridStep x)).le

theorem le_nearestEven_steps {x : Rat} (hx : x ≠ 0) (h : -149 < gridExp x) :
    2 ^ 23 ≤ nearestEven (|x| / gridStep x) :=
  le_nearestEven <| by
    push_cast
    exact (le_div_iff₀ (gridStep_pos x)).mpr (gridStep_le_abs hx h)

/-- In the top binade the last step but one half is the first number that rounds up to 2^24 steps: the tie goes to the
even number (R107). -/
theorem nearestEven_lt_two_pow_iff (w : Rat) : nearestEven w < 2 ^ 24 ↔ w < 2 ^ 24 - 1 / 2 := by
  obtain ⟨hlo, hhi⟩ := abs_le.mp (abs_sub_nearestEven_le w)
  constructor
  · intro h
    by_contra hw
    have hle : nearestEven w ≤ 2 ^ 24 - 1 := by omega
    have hle' : (nearestEven w : Rat) ≤ 2 ^ 24 - 1 := by exact_mod_cast hle
    have heq : nearestEven w = 2 ^ 24 - 1 := by
      refine le_antisymm hle (Int.cast_le (R := Rat) |>.mp ?_)
      push_cast
      linarith
    have heven : Even (nearestEven w) := even_nearestEven ((show (1 : Rat) / 2 ≤ w - nearestEven w by linarith).trans
      (le_abs_self _))
    rw [heq] at heven
    exact absurd heven (by decide)
  · intro h
    refine Int.cast_lt (R := Rat) |>.mp ?_
    push_cast
    linarith

/-- What rounding answers is finite exactly below the overflow threshold `2^128 - 2^103` (R107). -/
theorem abs_gridNearest_le_maxFinite_iff (x : Rat) : |gridNearest x| ≤ maxFinite ↔ |x| < 2 ^ 128 - 2 ^ 103 := by
  by_cases hx : x = 0
  · subst hx
    norm_num [maxFinite]
  have hpos := gridStep_pos x
  rw [abs_gridNearest]
  -- Below the top binade nothing overflows, in it the threshold is half a step under 2^24 steps, above it all does.
  rcases lt_trichotomy (gridExp x) 104 with h | h | h
  · have hstep : gridStep x ≤ 2 ^ 103 := by
      rw [gridStep_eq]
      exact_mod_cast zpow_le_zpow_right₀ (one_le_two (α := Rat)) (show gridExp x ≤ (103 : Nat) by omega)
    have hn : (nearestEven (|x| / gridStep x) : Rat) ≤ 2 ^ 24 := by exact_mod_cast nearestEven_steps_le x
    have hlt := abs_lt_gridStep x
    have hsize : (nearestEven (|x| / gridStep x) : Rat) * gridStep x ≤ 2 ^ 24 * 2 ^ 103 := by gcongr
    refine iff_of_true (hsize.trans (by norm_num [maxFinite])) (hlt.trans_le ?_)
    calc 2 ^ 24 * gridStep x ≤ 2 ^ 24 * 2 ^ 103 := by gcongr
      _ ≤ 2 ^ 128 - 2 ^ 103 := by norm_num
  · have hstep : gridStep x = 2 ^ 104 := by
      rw [gridStep_eq, h]
      norm_cast
    rw [hstep, maxFinite, mul_le_mul_iff_left₀ (by positivity)]
    have hcast : (nearestEven (|x| / 2 ^ 104) : Rat) ≤ 2 ^ 24 - 1 ↔ nearestEven (|x| / 2 ^ 104) < 2 ^ 24 := by
      rw [← Int.le_sub_one_iff]
      exact_mod_cast Iff.rfl
    rw [hcast, nearestEven_lt_two_pow_iff, div_lt_iff₀ (by positivity)]
    norm_num
  · have hstep : (2 : Rat) ^ 105 ≤ gridStep x := by
      rw [gridStep_eq]
      exact_mod_cast zpow_le_zpow_right₀ (one_le_two (α := Rat)) (show ((105 : Nat) : Int) ≤ gridExp x by omega)
    have hn : (2 : Rat) ^ 23 ≤ nearestEven (|x| / gridStep x) := by
      exact_mod_cast le_nearestEven_steps hx (by omega)
    have hlow := gridStep_le_abs hx (by omega)
    have hsize : (2 : Rat) ^ 23 * 2 ^ 105 ≤ nearestEven (|x| / gridStep x) * gridStep x := by gcongr
    refine iff_of_false (fun hle => ?_) (fun hlt => ?_)
    · exact absurd (hsize.trans hle) (by norm_num [maxFinite])
    · have hsize' : (2 : Rat) ^ 23 * 2 ^ 105 ≤ 2 ^ 23 * gridStep x := by gcongr
      exact absurd ((hsize'.trans hlow).trans_lt hlt) (by norm_num)

theorem roundBinary32_eq_none_iff (x : Rat) : roundBinary32 x = none ↔ 2 ^ 128 - 2 ^ 103 ≤ |x| := by
  rw [← not_lt, ← abs_gridNearest_le_maxFinite_iff, roundBinary32_eq]
  split_ifs with h <;> simp [h]

/-- A multiple of a power of two that is at most the largest finite value is on the grid, by at most 2^24 steps, and
not less than 2^23 where the grid would be finer. -/
theorem onGrid_of_abs_le_maxFinite {n e : Int} (hn : |n| ≤ 2 ^ 24) (he : -149 ≤ e) (hnormal : -149 < e → 2 ^ 23 ≤ |n|)
    (h : |(n : Rat) * 2 ^ e| ≤ maxFinite) : OnGrid ((n : Rat) * 2 ^ e) := by
  rw [abs_mul, abs_of_pos (by positivity : (0 : Rat) < 2 ^ e), ← Int.cast_abs] at h
  have hexp {k : Int} (j : Nat) (hk : k ≤ |n|) (hk' : 0 ≤ k) (hj : (j : Int) ≤ e) : (k : Rat) * 2 ^ j ≤ maxFinite := by
    have hpow : (2 : Rat) ^ j ≤ 2 ^ e := by exact_mod_cast zpow_le_zpow_right₀ (one_le_two (α := Rat)) hj
    have hk'' : (k : Rat) ≤ (|n| : Int) := Int.cast_le.mpr hk
    refine le_trans ?_ h
    gcongr
  have he104 : e ≤ 104 := by
    by_contra hlt
    have hle := hexp 105 (hnormal (by omega)) (by norm_num) (by omega)
    norm_num [maxFinite] at hle
  rcases hn.lt_or_eq with hlt | heq
  · exact onGrid_iff.mpr ⟨n, e, hlt, he, he104, rfl⟩
  · have he103 : e ≤ 103 := by
      by_contra hlt
      have hle := hexp 104 heq.ge (by norm_num) (by omega)
      norm_num [maxFinite] at hle
    obtain ⟨j, rfl⟩ : ∃ j, n = 2 * j := ⟨n / 2, by rcases abs_eq (by norm_num) |>.mp heq with h | h <;> omega⟩
    refine onGrid_iff.mpr ⟨j, e + 1, ?_, by omega, by omega, ?_⟩
    · rw [abs_mul, abs_two] at heq
      omega
    rw [zpow_add_one₀ two_ne_zero]
    push_cast
    ring

/-- Rounding answers a value of the grid (R105, R107). -/
theorem onGrid_of_roundBinary32 {x y : Rat} (h : roundBinary32 x = some y) : OnGrid y := by
  by_cases hx : x = 0
  · subst hx
    exact .inl (Option.some.inj h).symm
  · have hmax := abs_le_maxFinite_of_roundBinary32 h
    obtain rfl := gridNearest_of_roundBinary32 h
    have habs : |nearestEven (x / gridStep x)| = nearestEven (|x| / gridStep x) := by
      rw [abs_nearestEven, abs_div, abs_of_pos (gridStep_pos x)]
    rw [gridNearest, gridStep_eq] at hmax ⊢
    rw [gridStep_eq] at habs
    refine onGrid_of_abs_le_maxFinite ?_ (neg_149_le_gridExp x) (fun hexp => ?_) hmax
    · rw [habs, ← gridStep_eq]
      exact nearestEven_steps_le x
    · rw [habs, ← gridStep_eq]
      exact le_nearestEven_steps hx hexp

end Sys2Proof.Machine

namespace Sys2Proof.Proofs

open Machine

/-- Settles O18: the nearest multiple of the grid's step at `x` is nearest of the whole grid, for the values that are no
multiples lie below the power of two that `|x|` reaches. -/
theorem roundingIsNearestTiesToEven : Obligations.RoundingIsNearestTiesToEven := by
  unfold Obligations.RoundingIsNearestTiesToEven
  intro x
  exact ⟨roundBinary32_eq_none_iff x, fun y h => ⟨onGrid_of_roundBinary32 h, fun z hz => roundBinary32_nearest h hz⟩⟩

end Sys2Proof.Proofs
end

section
/-! PROOFS of the family 40_numerics.md, second part: values of the grid. Rounding keeps a number between values of the
grid and leaves the grid as it is (R107), and a value of the grid and its pattern are read off from the same two fields
(R105, R106). -/

namespace Sys2Proof.Machine

/-! ### Values of the grid under rounding -/

theorem abs_le_maxFinite_of_onGrid {x : Rat} (h : OnGrid x) : |x| ≤ maxFinite := by
  obtain ⟨m, e, hm, -, he, rfl⟩ := onGrid_iff.mp h
  have hm' : |m| ≤ 2 ^ 24 - 1 := by omega
  have hm'' : |(m : Rat)| ≤ 2 ^ 24 - 1 := by exact_mod_cast hm'
  have hpow : (2 : Rat) ^ e ≤ 2 ^ 104 := by
    exact_mod_cast zpow_le_zpow_right₀ (one_le_two (α := Rat)) (show e ≤ (104 : Nat) from he)
  rw [abs_mul, abs_of_pos (by positivity : (0 : Rat) < 2 ^ e), maxFinite]
  gcongr

/-- Rounding answers between two values of the grid if the number lies between them (R107). -/
theorem roundBinary32_between {a b x : Rat} (ha : OnGrid a) (hb : OnGrid b) (hax : a ≤ x) (hxb : x ≤ b) :
    ∃ y, roundBinary32 x = some y ∧ a ≤ y ∧ y ≤ b := by
  cases h : roundBinary32 x with
  | none =>
    have hmax : |x| ≤ maxFinite := (abs_le_max_abs_abs hax hxb).trans
      (max_le (abs_le_maxFinite_of_onGrid ha) (abs_le_maxFinite_of_onGrid hb))
    exact absurd (((roundBinary32_eq_none_iff x).mp h).trans hmax) (by norm_num [maxFinite])
  | some y =>
    have hnear_a := (roundBinary32_nearest h ha).1
    have hnear_b := (roundBinary32_nearest h hb).1
    rw [abs_of_nonneg (sub_nonneg.mpr hax)] at hnear_a
    rw [abs_of_nonpos (sub_nonpos.mpr hxb)] at hnear_b
    refine ⟨y, rfl, ?_, ?_⟩
    · linarith [le_abs_self (x - y)]
    · linarith [neg_abs_le (x - y)]

/-- The same under either `P_NUM`; EXACT does not round. -/
theorem roundTo_between (m : PNum) {a b x : Rat} (ha : OnGrid a) (hb : OnGrid b) (hax : a ≤ x) (hxb : x ≤ b) :
    ∃ y, roundTo m x = some y ∧ a ≤ y ∧ y ≤ b := by
  cases m with
  | exact => exact ⟨x, rfl, hax, hxb⟩
  | binary32 => exact roundBinary32_between ha hb hax hxb

theorem roundTo_of_onGrid (m : PNum) {x : Rat} (h : OnGrid x) : roundTo m x = some x := by
  obtain ⟨y, hy, hxy, hyx⟩ := roundTo_between m h h le_rfl le_rfl
  rwa [le_antisymm hyx hxy] at hy

theorem lit_of_onGrid (m : PNum) {x : Rat} (h : OnGrid x) : lit m x = x := by
  rw [lit, roundTo_of_onGrid m h, Option.getD_some]

/-- Integers of up to 24 bits over small powers of two are on the grid. -/
theorem onGrid_div {n : Int} (d : Nat) (hn : |n| < 2 ^ 24 := by decide) (hd : d ≤ 149 := by decide) :
    OnGrid (n / 2 ^ d) :=
  onGrid_iff.mpr ⟨n, -d, hn, by omega, by omega, by rw [zpow_neg, zpow_natCast, div_eq_mul_inv]⟩

/-! ### The fields of a pattern -/

/-- A pattern from its sign, exponent and fraction fields (R106). -/
def patternOf (sign : Bool) (e : BitVec 8) (f : BitVec 23) : BitVec 32 := BitVec.ofBool sign ++ e ++ f

theorem getLsbD_patternOf (sign : Bool) (e : BitVec 8) (f : BitVec 23) (i : Nat) :
    (patternOf sign e f).getLsbD i =
      if i < 23 then f.getLsbD i else if i < 31 then e.getLsbD (i - 23) else (decide (i = 31) && sign) := by
  have happend : (patternOf sign e f).getLsbD i = (BitVec.ofBool sign ++ e ++ f : BitVec (1 + 8 + 23)).getLsbD i := rfl
  rw [happend, BitVec.getLsbD_append, BitVec.getLsbD_append, BitVec.getLsbD_ofBool]
  split_ifs
  · rfl
  · rfl
  · omega
  · omega
  · congr 2
    exact propext (by omega)

@[simp] theorem patternOf_exponent (sign : Bool) (e : BitVec 8) (f : BitVec 23) :
    (patternOf sign e f).extractLsb' 23 8 = e := by
  refine BitVec.eq_of_getLsbD_eq fun i hi => ?_
  rw [BitVec.getLsbD_extractLsb', getLsbD_patternOf, if_neg (by omega), if_pos (by omega), Nat.add_sub_cancel_left,
    decide_eq_true hi, Bool.true_and]

@[simp] theorem patternOf_fraction (sign : Bool) (e : BitVec 8) (f : BitVec 23) :
    (patternOf sign e f).extractLsb' 0 23 = f := by
  refine BitVec.eq_of_getLsbD_eq fun i hi => ?_
  rw [BitVec.getLsbD_extractLsb', getLsbD_patternOf, if_pos (by omega), Nat.zero_add, decide_eq_true hi, Bool.true_and]

@[simp] theorem patternOf_msb (sign : Bool) (e : BitVec 8) (f : BitVec 23) : (patternOf sign e f).msb = sign := by
  rw [BitVec.msb_eq_getLsbD_last, getLsbD_patternOf]
  exact Bool.true_and sign

/-- Every pattern is made of its fields. -/
theorem patternOf_fields (p : BitVec 32) : patternOf p.msb (p.extractLsb' 23 8) (p.extractLsb' 0 23) = p := by
  refine BitVec.eq_of_getLsbD_eq fun i hi => ?_
  rw [getLsbD_patternOf, BitVec.getLsbD_extractLsb', BitVec.getLsbD_extractLsb', BitVec.msb_eq_getLsbD_last]
  split_ifs with hfraction hexponent
  · rw [decide_eq_true hfraction, Bool.true_and, Nat.zero_add]
  · rw [decide_eq_true (by omega), Bool.true_and, Nat.add_sub_cancel' (by omega)]
  · obtain rfl : i = 31 := by omega
    exact Bool.true_and _

/-- The size of the value a finite pattern denotes, from its exponent and fraction fields (R106). -/
def magnitude (e f : Nat) : Rat :=
  if e = 0 then (f : Rat) * (2 : Rat) ^ (-149 : Int) else ((2 ^ 23 + f : Nat) : Rat) * (2 : Rat) ^ ((e : Int) - 150)

theorem binary32Value_patternOf (sign : Bool) (e : BitVec 8) (f : BitVec 23) :
    binary32Value (patternOf sign e f) =
      if e.toNat = 255 then none
      else some (if sign then -magnitude e.toNat f.toNat else magnitude e.toNat f.toNat) := by
  unfold binary32Value
  rw [patternOf_exponent, patternOf_fraction, patternOf_msb]
  rfl

/-- The patterns without a finite value are those with the exponent field 255 (R106). -/
theorem binary32Value_eq_none_iff (p : BitVec 32) : binary32Value p = none ↔ p.extractLsb' 23 8 = 0xFF := by
  have hfield : p.extractLsb' 23 8 = 0xFF ↔ (p.extractLsb' 23 8).toNat = 255 := BitVec.toNat_inj.symm
  rw [hfield]
  conv_lhs => rw [← patternOf_fields p, binary32Value_patternOf]
  by_cases h : (p.extractLsb' 23 8).toNat = 255
  · rw [if_pos h]
    exact iff_of_true rfl h
  · rw [if_neg h]
    exact iff_of_false (Option.some_ne_none _) h

theorem magnitude_nonneg (e f : Nat) : 0 ≤ magnitude e f := by
  unfold magnitude
  split <;> positivity

theorem onGrid_magnitude {e f : Nat} (he : e < 255) (hf : f < 2 ^ 23) : OnGrid (magnitude e f) := by
  unfold magnitude
  split_ifs with h
  · exact onGrid_iff.mpr ⟨f, -149, by rw [Nat.abs_cast]; omega, le_rfl, by norm_num, rfl⟩
  · exact onGrid_iff.mpr ⟨(2 ^ 23 + f : Nat), (e : Int) - 150, by rw [Nat.abs_cast]; omega, by omega, by omega, rfl⟩

/-- Every value of the grid has an exponent and a fraction field (R105, R106). -/
theorem exists_magnitude_of_onGrid {x : Rat} (h : OnGrid x) :
    ∃ e f : Nat, e < 255 ∧ f < 2 ^ 23 ∧ |x| = magnitude e f := by
  rcases h with rfl | ⟨m, e, hm, hm', he, he', hx⟩
  · exact ⟨0, 0, by norm_num, by norm_num, by simp [magnitude]⟩
  obtain ⟨L, hL⟩ : ∃ L, Nat.log 2 m = L := ⟨_, rfl⟩
  have hlow : 2 ^ L ≤ m := hL ▸ Nat.pow_log_le_self 2 (by omega)
  have hhigh : m < 2 ^ (L + 1) := hL ▸ Nat.lt_pow_succ_log_self (by norm_num) m
  have hL23 : L ≤ 23 := by
    by_contra hlt
    have : 2 ^ 24 ≤ 2 ^ L := Nat.pow_le_pow_right (by norm_num) (by omega)
    omega
  by_cases hnormal : -126 ≤ L + e
  · obtain ⟨d, hd⟩ : ∃ d, 23 = L + d := ⟨23 - L, by omega⟩
    have hlow' : 2 ^ 23 ≤ m * 2 ^ d := by
      rw [hd, pow_add]
      exact Nat.mul_le_mul_right _ hlow
    have hhigh' : m * 2 ^ d < 2 ^ 24 := by
      rw [show 24 = L + 1 + d by omega, pow_add]
      exact Nat.mul_lt_mul_of_pos_right hhigh (by positivity)
    refine ⟨(L + e + 127).toNat, m * 2 ^ d - 2 ^ 23, by omega, by omega, ?_⟩
    rw [magnitude, if_neg (by omega), Nat.add_sub_cancel' hlow', hx, Int.toNat_of_nonneg (by omega),
      show e = d + (L + e + 127 - 150) by omega, two_zpow_add]
    rw [show ((L : Int) + (d + (L + e + 127 - 150)) + 127 - 150) = L + e + 127 - 150 by omega]
    push_cast
    ring
  · obtain ⟨d, hd⟩ : ∃ d : Nat, e = d + -149 := ⟨(e + 149).toNat, by omega⟩
    have hhigh' : m * 2 ^ d < 2 ^ 23 := calc
      m * 2 ^ d < 2 ^ (L + 1) * 2 ^ d := Nat.mul_lt_mul_of_pos_right hhigh (by positivity)
      _ ≤ 2 ^ 23 := by
        rw [← pow_add]
        exact Nat.pow_le_pow_right (by norm_num) (by omega)
    refine ⟨0, m * 2 ^ d, by norm_num, hhigh', ?_⟩
    rw [magnitude, if_pos rfl, hx, hd, two_zpow_add]
    push_cast
    ring

theorem magnitude_subnormal (f : Nat) : magnitude 0 f = f * (2 : Rat) ^ (-149 : Int) := if_pos rfl

theorem magnitude_normal {e : Nat} (he : e ≠ 0) (f : Nat) :
    magnitude e f = ((2 ^ 23 + f : Nat) : Rat) * (2 : Rat) ^ ((e : Int) - 150) := if_neg he

/-- The binade of a normal value is its exponent field less the bias. -/
theorem log_magnitude_normal {e f : Nat} (he : e ≠ 0) (hf : f < 2 ^ 23) :
    Int.log 2 (magnitude e f) = (e : Int) - 127 := by
  have hpow (n : Nat) : (2 : Rat) ^ ((n : Int) + (e - 150)) = 2 ^ n * 2 ^ ((e : Int) - 150) := two_zpow_add n _
  have hpos : (0 : Rat) < magnitude e f := by
    rw [magnitude_normal he]
    positivity
  have hlow : ((2 : Nat) : Rat) ^ ((e : Int) - 127) ≤ magnitude e f := by
    rw [show (e : Int) - 127 = (23 : Nat) + (e - 150) by omega, Nat.cast_ofNat, hpow, magnitude_normal he]
    gcongr
    push_cast
    linarith [f.cast_nonneg (α := Rat)]
  have hhigh : magnitude e f < ((2 : Nat) : Rat) ^ ((e : Int) - 127 + 1) := by
    rw [show (e : Int) - 127 + 1 = (24 : Nat) + (e - 150) by omega, Nat.cast_ofNat, hpow, magnitude_normal he]
    gcongr
    exact_mod_cast (show 2 ^ 23 + f < 2 ^ 24 by omega)
  exact le_antisymm (Int.lt_add_one_iff.mp ((Int.lt_zpow_iff_log_lt (by norm_num) hpos).mp hhigh))
    ((Int.zpow_le_iff_le_log (by norm_num) hpos).mp hlow)

/-- The values with the exponent field 0 lie below the normal range. -/
theorem log_magnitude_subnormal {f : Nat} (hf : f < 2 ^ 23) (hpos : 0 < magnitude 0 f) :
    Int.log 2 (magnitude 0 f) < -126 := by
  refine (Int.lt_zpow_iff_log_lt (by norm_num) hpos).mp ?_
  have hpow : (2 : Rat) ^ (-126 : Int) = 2 ^ 23 * 2 ^ (-149 : Int) := by norm_num
  rw [Nat.cast_ofNat, hpow, magnitude_subnormal]
  gcongr
  exact_mod_cast hf

/-- The pattern of a value of the grid has the fields that give its size. -/
theorem binary32Pattern_of_magnitude {x : Rat} {e f : Nat} (hx : x ≠ 0) (he : e < 255) (hf : f < 2 ^ 23)
    (h : |x| = magnitude e f) :
    binary32Pattern x = patternOf (decide (x < 0)) (BitVec.ofNat 8 e) (BitVec.ofNat 23 f) := by
  have hfloor (n : Nat) (k : Int) : ⌊(n : Rat) * 2 ^ k / 2 ^ k⌋ = (n : Int) := by
    rw [mul_div_cancel_right₀ _ (by positivity), Int.floor_natCast]
  unfold binary32Pattern
  rw [if_neg hx]
  dsimp only
  rw [h]
  by_cases h0 : e = 0
  · subst h0
    rw [if_neg (not_le.mpr (log_magnitude_subnormal hf (h ▸ abs_pos.mpr hx))), magnitude_subnormal, hfloor]
    rfl
  · rw [log_magnitude_normal h0 hf, if_pos (by omega), magnitude_normal h0,
      show (e : Int) - 127 - 23 = e - 150 by omega, hfloor, Int.sub_add_cancel]
    have hfraction : BitVec.ofInt 23 ((2 ^ 23 + f : Nat) : Int) = BitVec.ofNat 23 f := by
      rw [BitVec.ofInt_natCast]
      exact BitVec.eq_of_toNat_eq (by simp)
    rw [hfraction]
    rfl

/-- A finite pattern denotes a value of the grid, and is that value's pattern unless it is a zero (R105, R106). -/
theorem onGrid_and_pattern_of_binary32Value {p : BitVec 32} {x : Rat} (h : binary32Value p = some x) :
    OnGrid x ∧ (x ≠ 0 → binary32Pattern x = p) := by
  rw [← patternOf_fields p] at h ⊢
  generalize p.msb = sign, p.extractLsb' 23 8 = e, p.extractLsb' 0 23 = f at h ⊢
  rw [binary32Value_patternOf] at h
  by_cases he : e.toNat = 255
  · rw [if_pos he] at h
    cases h
  have he' : e.toNat < 255 := by have := e.isLt; omega
  have hgrid := onGrid_magnitude he' f.isLt
  have hnonneg := magnitude_nonneg e.toNat f.toNat
  have hpattern (hx : x ≠ 0) (habs : |x| = magnitude e.toNat f.toNat) (hsign : decide (x < 0) = sign) :
      binary32Pattern x = patternOf sign e f := by
    rw [binary32Pattern_of_magnitude hx he' f.isLt habs, hsign, BitVec.ofNat_toNat, BitVec.ofNat_toNat,
      BitVec.setWidth_eq, BitVec.setWidth_eq]
  rw [if_neg he, Option.some_inj] at h
  cases sign with
  | true =>
    obtain rfl : -magnitude e.toNat f.toNat = x := h
    refine ⟨onGrid_neg hgrid, fun hx => hpattern hx ?_ (decide_eq_true ?_)⟩
    · rw [abs_neg, abs_of_nonneg hnonneg]
    · exact lt_of_le_of_ne (neg_nonpos.mpr hnonneg) hx
  | false =>
    obtain rfl : magnitude e.toNat f.toNat = x := h
    exact ⟨hgrid, fun hx => hpattern hx (abs_of_nonneg hnonneg) (decide_eq_false (not_lt.mpr hnonneg))⟩

/-- The pattern of a value of the grid denotes it (R106). -/
theorem binary32Value_binary32Pattern {x : Rat} (h : OnGrid x) : binary32Value (binary32Pattern x) = some x := by
  by_cases hx : x = 0
  · subst hx
    have hzero : binary32Pattern 0 = patternOf false 0 0 := rfl
    rw [hzero, binary32Value_patternOf]
    simp [magnitude]
  obtain ⟨e, f, he, hf, habs⟩ := exists_magnitude_of_onGrid h
  rw [binary32Pattern_of_magnitude hx he hf habs, binary32Value_patternOf, BitVec.toNat_ofNat, BitVec.toNat_ofNat,
    Nat.mod_eq_of_lt hf, Nat.mod_eq_of_lt (by omega), if_neg he.ne, ← habs]
  rcases lt_or_ge x 0 with hneg | hnonneg
  · rw [if_pos (decide_eq_true hneg), abs_of_neg hneg, neg_neg]
  · rw [if_neg (by simpa using hnonneg), abs_of_nonneg hnonneg]

/-! ### What a command stores -/

/-- A result of rounding reads back from the register it is stored in (R106, R32). -/
theorem numberValue_numberOf {m : PNum} {x y : Rat} (h : roundTo m x = some y) :
    numberValue (numberOf m y) = some y := by
  cases m with
  | exact => rfl
  | binary32 =>
    unfold numberOf
    dsimp only
    split_ifs with hy
    · rw [hy, numberValue_zero]
    · exact binary32Value_binary32Pattern (onGrid_of_roundBinary32 h)

end Sys2Proof.Machine

namespace Sys2Proof.Proofs

open Machine

/-- Settles O19: a value of the grid and its pattern are read off from the same exponent and fraction fields. -/
theorem patternsDenoteTheGrid : Obligations.PatternsDenoteTheGrid := by
  unfold Obligations.PatternsDenoteTheGrid
  exact ⟨fun p x h => onGrid_and_pattern_of_binary32Value h, fun x hx => binary32Value_binary32Pattern hx,
    binary32Value_eq_none_iff⟩

/-- Settles O20: the table, evaluated; EXACT does not round (R104). -/
theorem constantsHaveTheirPatterns : Obligations.ConstantsHaveTheirPatterns := by
  unfold Obligations.ConstantsHaveTheirPatterns
  refine ⟨?_, lit_exact⟩
  decide +kernel

end Sys2Proof.Proofs
end

section
/-! PROOFS of the family 40_numerics.md, third part: the mappings of the rules as rounded sums, left to right (R115). -/

namespace Sys2Proof.Machine

/-! ### Rounded sums -/

theorem fsub_eq (m : PNum) (x y : Rat) : fsub m x y = roundTo m (x + -y) := by
  rw [fsub, sub_eq_add_neg]

theorem roundedSum_nil (m : PNum) (acc : Rat) : roundedSum m acc [] = some acc := rfl

theorem roundedSum_cons (m : PNum) (acc x : Rat) (xs : List Rat) :
    roundedSum m acc (x :: xs) = (roundTo m (acc + x)).bind fun y => roundedSum m y xs := by
  rw [roundedSum]
  cases roundTo m (acc + x) <;> rfl

theorem roundedQuarter_eq (m : PNum) (x : Rat) (xs : List Rat) :
    roundedQuarter m x xs = (roundedSum m x xs).bind fun y => fdiv m y (lit m 4) := by
  have hfour : lit m 4 = 4 := lit_of_onGrid m (by simpa using onGrid_div (n := 4) 0)
  rw [roundedQuarter, hfour]
  cases roundedSum m x xs <;> rfl

theorem roundedAffine_nil (m : PNum) (acc : Rat) : roundedAffine m acc [] = some acc := rfl

theorem roundedAffine_cons (m : PNum) (acc c v : Rat) (terms : List (Rat × Rat)) :
    roundedAffine m acc ((c, v) :: terms) =
      (roundTo m (lit m c * v)).bind fun p => (roundTo m (acc + p)).bind fun y => roundedAffine m y terms := by
  unfold roundedAffine
  rw [List.mapM_cons]
  cases roundTo m (lit m c * v) with
  | none => rfl
  | some p =>
    cases terms.mapM fun t => roundTo m (lit m t.1 * t.2) with
    | none => simp
    | some ps => exact roundedSum_cons m acc p ps

theorem roundedDot_cons (m : PNum) (c v : Rat) (terms : List (Rat × Rat)) :
    roundedDot m ((c, v) :: terms) = (roundTo m (lit m c * v)).bind fun p => roundedAffine m p terms := by
  unfold roundedDot roundedAffine
  rw [List.mapM_cons]
  cases roundTo m (lit m c * v) with
  | none => rfl
  | some p => cases terms.mapM fun t => roundTo m (lit m t.1 * t.2) <;> rfl

/-- Subtracting a rounded product is adding the rounded product with the negated literal. -/
theorem fmul_fsub_bind {α : Type} (m : PNum) (c v acc : Rat) (f : Rat → Option α) :
    ((fmul m (lit m c) v).bind fun p => (fsub m acc p).bind f) =
      (roundTo m (lit m (-c) * v)).bind fun p => (roundTo m (acc + p)).bind f := by
  rw [lit_neg, neg_mul, roundTo_neg, fmul]
  cases roundTo m (lit m c * v) with
  | none => rfl
  | some p => rw [Option.bind_some, Option.map_some, Option.bind_some, fsub_eq]

/-! ### The rules' mappings as rounded sums -/

/-- The inverse mapping as rounded sums (R115, R152). -/
theorem yppToRgb_eq (m : PNum) (x : Ypp Rat) :
    yppToRgb m x =
      (roundedAffine m x.y [(1402 / 1000, x.pr)]).bind fun r =>
        (roundedAffine m x.y [(-344136 / 10 ^ 6, x.pb), (-714136 / 10 ^ 6, x.pr)]).bind fun g =>
          (roundedAffine m x.y [(1772 / 1000, x.pb)]).bind fun b => some ⟨r, g, b⟩ := by
  have hpb : (-344136 / 10 ^ 6 : Rat) = -(344136 / 1000000) := by norm_num
  have hpr : (-714136 / 10 ^ 6 : Rat) = -(714136 / 1000000) := by norm_num
  simp only [hpb, hpr, roundedAffine_cons, roundedAffine_nil, Option.bind_assoc, Option.bind_some]
  simp only [← fmul_fsub_bind]
  rfl

/-- A sum of three rounded products, and what is done with it. -/
theorem roundedDot_three_bind {α : Type} (m : PNum) (c v c' v' c'' v'' : Rat) (f : Rat → Option α) :
    (roundedDot m [(c, v), (c', v'), (c'', v'')]).bind f =
      (roundTo m (lit m c * v)).bind fun p => (roundTo m (lit m c' * v')).bind fun p' =>
        (roundTo m (p + p')).bind fun a => (roundTo m (lit m c'' * v'')).bind fun p'' =>
          (roundTo m (a + p'')).bind f := by
  simp only [roundedDot_cons, roundedAffine_cons, roundedAffine_nil, Option.bind_assoc, Option.bind_some]

/-- The forward mapping as rounded sums of products (R115, R151). -/
theorem rgbToYpp_eq (m : PNum) (x : Rgb Rat) :
    rgbToYpp m x =
      (roundedDot m [(299 / 1000, x.r), (587 / 1000, x.g), (114 / 1000, x.b)]).bind fun y =>
        (roundedDot m [(-168736 / 10 ^ 6, x.r), (-331264 / 10 ^ 6, x.g), (5 / 10, x.b)]).bind fun pb =>
          (roundedDot m [(5 / 10, x.r), (-418688 / 10 ^ 6, x.g), (-81312 / 10 ^ 6, x.b)]).bind fun pr =>
            some ⟨y, pb, pr⟩ := by
  have hr : (-168736 / 10 ^ 6 : Rat) = -(168736 / 1000000) := by norm_num
  have hg : (-331264 / 10 ^ 6 : Rat) = -(331264 / 1000000) := by norm_num
  have hg' : (-418688 / 10 ^ 6 : Rat) = -(418688 / 1000000) := by norm_num
  have hb : (-81312 / 10 ^ 6 : Rat) = -(81312 / 1000000) := by norm_num
  rw [hr, hg, hg', hb]
  simp only [roundedDot_three_bind]
  simp only [← fmul_fsub_bind, lit_neg m (168736 / 1000000)]
  rfl

/-- A sum of four, and what is done with it. -/
theorem roundedSum_four_bind {α : Type} (m : PNum) (x y z w : Rat) (f : Rat → Option α) :
    (roundedSum m x [y, z, w]).bind f =
      (roundTo m (x + y)).bind fun a => (roundTo m (a + z)).bind fun b => (roundTo m (b + w)).bind f := by
  simp only [roundedSum_cons, roundedSum_nil, Option.bind_assoc, Option.bind_some]

/-- A quartered sum of four, and what is done with it. -/
theorem roundedQuarter_four_bind {α : Type} (m : PNum) (x y z w : Rat) (f : Rat → Option α) :
    (roundedQuarter m x [y, z, w]).bind f =
      (roundTo m (x + y)).bind fun a => (roundTo m (a + z)).bind fun b => (roundTo m (b + w)).bind fun c =>
        (fdiv m c (lit m 4)).bind f := by
  rw [roundedQuarter_eq, Option.bind_assoc, roundedSum_four_bind]

theorem lumaForward_eq (m : PNum) (y : Quad Rat) :
    lumaForward m y =
      (roundedQuarter m y.topLeft [y.topRight, y.bottomLeft, y.bottomRight]).bind fun a =>
        (roundedQuarter m y.bottomRight [y.bottomLeft, -y.topRight, -y.topLeft]).bind fun b =>
          (roundedQuarter m y.bottomRight [-y.bottomLeft, y.topRight, -y.topLeft]).bind fun c =>
            (roundedQuarter m y.bottomRight [-y.bottomLeft, -y.topRight, y.topLeft]).bind fun d =>
              some ⟨a, b, c, d⟩ := by
  simp only [roundedQuarter_four_bind, ← sub_eq_add_neg]
  rfl

theorem lumaInverse_eq (m : PNum) (x : Luma Rat) :
    lumaInverse m x =
      (roundedSum m x.a [-x.b, -x.c, x.d]).bind fun y1 =>
        (roundedSum m x.a [-x.b, x.c, -x.d]).bind fun y2 =>
          (roundedSum m x.a [x.b, -x.c, -x.d]).bind fun y3 =>
            (roundedSum m x.a [x.b, x.c, x.d]).bind fun y4 => some ⟨y1, y2, y3, y4⟩ := by
  simp only [roundedSum_four_bind, ← sub_eq_add_neg]
  rfl

theorem mean4_eq (m : PNum) (x : Quad Rat) :
    mean4 m x = roundedQuarter m x.topLeft [x.topRight, x.bottomLeft, x.bottomRight] := by
  simp only [roundedQuarter_eq, roundedSum_cons, roundedSum_nil, Option.bind_assoc, Option.bind_some]
  rfl

end Sys2Proof.Machine
end

section
/-! PROOFS of the family 40_numerics.md, fourth part: no command stores an infinity or a NaN, and none raises NONFINITE
under EXACT (R104, R112). Both are read off one walk through the body of each command (`Ends`): what it stores are
results of rounding or copies of finite numbers, and what it raises is not NONFINITE while its sources are finite and
its arithmetic is total. -/

namespace Sys2Proof.Machine

/-! ### Results of rounding -/

/-- A number that rounding answers, such as every result of arithmetic (R104, R108). -/
def Rounded (m : PNum) (y : Rat) : Prop := ∃ x, roundTo m x = some y

theorem Rounded.numberValue_ne_none {m : PNum} {y : Rat} (h : Rounded m y) : numberValue (numberOf m y) ≠ none := by
  obtain ⟨x, hx⟩ := h
  rw [numberValue_numberOf hx]
  exact Option.some_ne_none y

theorem rounded_of_roundedSum {m : PNum} {acc y : Rat} {xs : List Rat} (h : roundedSum m acc xs = some y)
    (hacc : xs = [] → Rounded m acc) : Rounded m y := by
  induction xs generalizing acc with
  | nil =>
    obtain rfl := Option.some.inj h
    exact hacc rfl
  | cons x xs ih =>
    rw [roundedSum_cons, Option.bind_eq_some_iff] at h
    obtain ⟨z, hz, h⟩ := h
    exact ih h fun _ => ⟨_, hz⟩

theorem rounded_of_roundedAffine {m : PNum} {acc y : Rat} {terms : List (Rat × Rat)}
    (h : roundedAffine m acc terms = some y) (hacc : terms = [] → Rounded m acc) : Rounded m y := by
  induction terms generalizing acc with
  | nil =>
    obtain rfl := Option.some.inj h
    exact hacc rfl
  | cons t terms ih =>
    rw [roundedAffine_cons, Option.bind_eq_some_iff] at h
    obtain ⟨p, -, h⟩ := h
    obtain ⟨z, hz, h⟩ := Option.bind_eq_some_iff.mp h
    exact ih h fun _ => ⟨_, hz⟩

theorem rounded_of_roundedDot {m : PNum} {y : Rat} {terms : List (Rat × Rat)}
    (h : roundedDot m terms = some y) : Rounded m y := by
  cases terms with
  | nil => cases h
  | cons t terms =>
    rw [roundedDot_cons, Option.bind_eq_some_iff] at h
    obtain ⟨p, hp, h⟩ := h
    exact rounded_of_roundedAffine h fun _ => ⟨_, hp⟩

theorem rounded_of_roundedQuarter {m : PNum} {x y : Rat} {xs : List Rat}
    (h : roundedQuarter m x xs = some y) : Rounded m y := by
  rw [roundedQuarter_eq, Option.bind_eq_some_iff] at h
  obtain ⟨z, -, h⟩ := h
  exact ⟨_, h⟩

theorem rounded_of_rgbToYpp {m : PNum} {x : Rgb Rat} {z : Ypp Rat} (h : rgbToYpp m x = some z) :
    Rounded m z.y ∧ Rounded m z.pb ∧ Rounded m z.pr := by
  simp only [rgbToYpp_eq, Option.bind_eq_some_iff, Option.some_inj] at h
  obtain ⟨y, hy, pb, hpb, pr, hpr, rfl⟩ := h
  exact ⟨rounded_of_roundedDot hy, rounded_of_roundedDot hpb, rounded_of_roundedDot hpr⟩

theorem rounded_of_yppToRgb {m : PNum} {x : Ypp Rat} {z : Rgb Rat} (h : yppToRgb m x = some z) :
    Rounded m z.r ∧ Rounded m z.g ∧ Rounded m z.b := by
  simp only [yppToRgb_eq, Option.bind_eq_some_iff, Option.some_inj] at h
  obtain ⟨r, hr, g, hg, b, hb, rfl⟩ := h
  exact ⟨rounded_of_roundedAffine hr nofun, rounded_of_roundedAffine hg nofun,
    rounded_of_roundedAffine hb nofun⟩

theorem rounded_of_lumaForward {m : PNum} {y : Quad Rat} {z : Luma Rat} (h : lumaForward m y = some z) :
    Rounded m z.a ∧ Rounded m z.b ∧ Rounded m z.c ∧ Rounded m z.d := by
  simp only [lumaForward_eq, Option.bind_eq_some_iff, Option.some_inj] at h
  obtain ⟨a, ha, b, hb, c, hc, d, hd, rfl⟩ := h
  exact ⟨rounded_of_roundedQuarter ha, rounded_of_roundedQuarter hb, rounded_of_roundedQuarter hc,
    rounded_of_roundedQuarter hd⟩

theorem rounded_of_lumaInverse {m : PNum} {x : Luma Rat} {y : Quad Rat} (h : lumaInverse m x = some y) :
    Rounded m y.topLeft ∧ Rounded m y.topRight ∧ Rounded m y.bottomLeft ∧ Rounded m y.bottomRight := by
  simp only [lumaInverse_eq, Option.bind_eq_some_iff, Option.some_inj] at h
  obtain ⟨y1, h1, y2, h2, y3, h3, y4, h4, rfl⟩ := h
  exact ⟨rounded_of_roundedSum h1 nofun, rounded_of_roundedSum h2 nofun,
    rounded_of_roundedSum h3 nofun, rounded_of_roundedSum h4 nofun⟩

theorem rounded_of_mean4 {m : PNum} {x : Quad Rat} {y : Rat} (h : mean4 m x = some y) : Rounded m y := by
  rw [mean4_eq] at h
  exact rounded_of_roundedQuarter h

theorem rounded_of_decodeDc {m : PNum} {q : Int} {x : Rat} (h : decodeDc m q = some x) : Rounded m x := by
  obtain ⟨u, -, h⟩ := Option.bind_eq_some_iff.mp h
  exact ⟨_, h⟩

theorem rounded_of_decodeAc {m : PNum} {q : Int} {x : Rat} (h : decodeAc m q = some x) : Rounded m x := by
  obtain ⟨u, -, h⟩ := Option.bind_eq_some_iff.mp h
  obtain ⟨w, -, h⟩ := Option.bind_eq_some_iff.mp h
  exact ⟨_, h⟩

/-! ### What a checked computation ends in -/

/-- A checked computation answers a value with the property `P`, or raises a fault with the property `R`. -/
def Ends {α : Type} (P : α → Prop) (R : Raise → Prop) : Checked α → Prop
  | .ok a => P a
  | .error e => R e

/-- A checked computation raises faults with the property `R` only. -/
abbrev Raises {α : Type} (R : Raise → Prop) (x : Checked α) : Prop := Ends (fun _ => True) R x

theorem Ends.pure {α : Type} {P : α → Prop} {R : Raise → Prop} {a : α} (h : P a) : Ends P R (pure a : Checked α) := h

theorem Ends.bind {α β : Type} {P : β → Prop} {R : Raise → Prop} {x : Checked α} {f : α → Checked β}
    (hx : Raises R x) (hf : ∀ a, x = .ok a → Ends P R (f a)) : Ends P R (x >>= f) := by
  cases x with
  | ok a => exact hf a rfl
  | error e => exact hx

/-! ### Finite registers -/

@[simp] theorem State.setNumbers_fault (s : State) (l : List (NumReg × Number)) :
    (s.setNumbers l).fault = s.fault := by
  induction l generalizing s with
  | nil => rfl
  | cons e l ih => exact (ih (s.setNumber e.1 e.2)).trans (State.setNumber_fault s e.1 e.2)

theorem numbersFinite_setNumbers {s : State} {l : List (NumReg × Number)} (hs : NumbersFinite s)
    (hl : ∀ e ∈ l, numberValue e.2 ≠ none) : NumbersFinite (s.setNumbers l) := by
  induction l generalizing s with
  | nil => exact hs
  | cons e l ih =>
    refine ih (fun n x hx => ?_) fun e' he' => hl e' (List.mem_cons_of_mem e he')
    rw [State.setNumber_number] at hx
    split at hx
    · obtain rfl := Option.some.inj hx
      exact hl e List.mem_cons_self
    · exact hs n x hx

/-- Under EXACT every number is finite (R104). -/
theorem numbersFinite_of_exact {s : State} (hkind : NumbersOfKind s) (hm : s.config.pnum = .exact) :
    NumbersFinite s := by
  intro n x hx
  have h := hkind n x hx
  rw [hm] at h
  cases x with
  | pattern p => exact h.elim
  | zero => exact h.elim
  | rational q => exact Option.some_ne_none q

/-- An entry of a valid table is finite (R10, R204). -/
theorem numberValue_valueOf_ne_none {c : Config} (h : c.Valid) {j : Nat} (hj : j < 16) :
    numberValue (valueOf c j) ≠ none := by
  have hlen : j < c.chroma.toList.length := by simpa using hj
  have hentry : valueOf c j = c.chroma.toList[j] := by simp [valueOf, List.getD_eq_getElem?_getD, hj]
  rw [hentry]
  exact (h.1 _ (List.getElem_mem hlen)).2

/-! ### Which commands raise NONFINITE -/

/-- A raise that finite registers allow: under EXACT it is not NONFINITE (R104, R112). -/
def RaiseFits (m : PNum) (e : Raise) : Prop := m = .exact → e.code ≠ .nonfinite

section parts
variable {m : PNum}

theorem raises_source {α : Type} (x : Option α) : Raises (RaiseFits m) (source x) := by
  cases x with
  | some a => trivial
  | none => exact fun _ => nofun

theorem raises_pixel (idx : Byte) : Raises (RaiseFits m) (pixel idx) := by
  unfold pixel
  split
  · trivial
  · exact fun _ => nofun

theorem raises_precondition (c : Bool) : Raises (RaiseFits m) (ensure c ⟨.precondition, 0⟩) := by
  cases c with
  | true => trivial
  | false => exact fun _ => nofun

theorem raises_inRange (fits : Bool) (info : BitVec 4) : Raises (RaiseFits m) (inRange fits info) := by
  cases fits with
  | true => trivial
  | false => exact fun _ => nofun

theorem raises_sourceRgb (x : Rgb (Option Number)) : Raises (RaiseFits m) (sourceRgb x) :=
  .bind (raises_source _) fun _ _ => .bind (raises_source _) fun _ _ => .bind (raises_source _) fun _ _ => .pure trivial

theorem raises_sourceYpp (x : Ypp (Option Number)) : Raises (RaiseFits m) (sourceYpp x) :=
  .bind (raises_source _) fun _ _ => .bind (raises_source _) fun _ _ => .bind (raises_source _) fun _ _ => .pure trivial

theorem raises_sourceQuad {α : Type} (x : Quad (Option α)) : Raises (RaiseFits m) (sourceQuad x) :=
  .bind (raises_source _) fun _ _ => .bind (raises_source _) fun _ _ => .bind (raises_source _) fun _ _ =>
    .bind (raises_source _) fun _ _ => .pure trivial

theorem raises_sourceLuma (x : Six (Option Number)) : Raises (RaiseFits m) (sourceLuma x) :=
  .bind (raises_source _) fun _ _ => .bind (raises_source _) fun _ _ => .bind (raises_source _) fun _ _ =>
    .bind (raises_source _) fun _ _ => .pure trivial

theorem raises_sourceChroma {α : Type} (x : Six (Option α)) : Raises (RaiseFits m) (sourceChroma x) :=
  .bind (raises_source _) fun _ _ => .bind (raises_source _) fun _ _ => .pure trivial

theorem raises_sourceSix {α : Type} (x : Six (Option α)) : Raises (RaiseFits m) (sourceSix x) :=
  .bind (raises_source _) fun _ _ => .bind (raises_source _) fun _ _ => .bind (raises_source _) fun _ _ =>
    .bind (raises_source _) fun _ _ => .bind (raises_source _) fun _ _ => .bind (raises_source _) fun _ _ =>
      .pure trivial

theorem raises_fieldsFit (q : Six Word64) : Raises (RaiseFits m) (fieldsFit q) :=
  .bind (raises_inRange _ _) fun _ _ => .bind (raises_inRange _ _) fun _ _ => .bind (raises_inRange _ _) fun _ _ =>
    .bind (raises_inRange _ _) fun _ _ => .bind (raises_inRange _ _) fun _ _ => raises_inRange _ _

/-- A finite number raises nothing. -/
theorem raises_finite {x : Number} (h : numberValue x ≠ none) : Raises (RaiseFits m) (finite x) := by
  obtain ⟨q, hq⟩ := Option.ne_none_iff_exists'.mp h
  rw [finite_of_value hq]
  trivial

/-- Arithmetic that is total under EXACT raises no NONFINITE there. -/
theorem raises_computed {α : Type} (f : PNum → Option α) (h : f .exact ≠ none) :
    Raises (RaiseFits m) (computed (f m)) := by
  cases ho : f m with
  | some a => trivial
  | none =>
    rintro rfl
    exact absurd ho h

/-! The sources of the commands, in a state without an infinity or a NaN. -/

variable {s : State} (hs : NumbersFinite s)
include hs

theorem raises_finiteRgb {p : Pixel} {n : Rgb Number} (hn : sourceRgb (s.rgb.get p) = .ok n) :
    Raises (RaiseFits m) (finiteRgb n) := by
  have hget := sourceRgb_eq_ok.mp hn
  have hpart (k : RgbPart) : numberValue (rgbPart n k) ≠ none :=
    hs (.rgb p k) _ (by rw [State.number, hget]; cases k <;> rfl)
  exact .bind (raises_finite (hpart .r)) fun _ _ => .bind (raises_finite (hpart .g)) fun _ _ =>
    .bind (raises_finite (hpart .b)) fun _ _ => .pure trivial

theorem raises_finiteYpp {p : Pixel} {n : Ypp Number} (hn : sourceYpp (s.ypp.get p) = .ok n) :
    Raises (RaiseFits m) (finiteYpp n) := by
  have hget := sourceYpp_eq_ok.mp hn
  have hpart (k : YppPart) : numberValue (yppPart n k) ≠ none :=
    hs (.ypp p k) _ (by rw [State.number, hget]; cases k <;> rfl)
  exact .bind (raises_finite (hpart .y)) fun _ _ => .bind (raises_finite (hpart .pb)) fun _ _ =>
    .bind (raises_finite (hpart .pr)) fun _ _ => .pure trivial

theorem raises_finiteQuad {k : YppPart} {n : Quad Number}
    (hn : sourceQuad (s.ypp.map fun z => yppPart z k) = .ok n) : Raises (RaiseFits m) (finiteQuad n) := by
  have hmap := sourceQuad_eq_ok.mp hn
  have hpart (p : Pixel) : numberValue (n.get p) ≠ none :=
    hs (.ypp p k) _ (by rw [State.number, ← Quad.get_map (yppPart · k), hmap, Quad.get_map])
  exact .bind (raises_finite (hpart .topLeft)) fun _ _ => .bind (raises_finite (hpart .topRight)) fun _ _ =>
    .bind (raises_finite (hpart .bottomLeft)) fun _ _ => .bind (raises_finite (hpart .bottomRight)) fun _ _ =>
      .pure trivial

theorem raises_finiteLuma {n : Luma Number} (hn : sourceLuma s.coef = .ok n) :
    Raises (RaiseFits m) (finiteLuma n) := by
  obtain ⟨ha, hb, hc, hd⟩ := sourceLuma_eq_ok.mp hn
  exact .bind (raises_finite (hs (.coef .a) _ ha)) fun _ _ => .bind (raises_finite (hs (.coef .b) _ hb)) fun _ _ =>
    .bind (raises_finite (hs (.coef .c) _ hc)) fun _ _ => .bind (raises_finite (hs (.coef .d) _ hd)) fun _ _ =>
      .pure trivial

theorem raises_finiteChroma {n : Chroma Number} (hn : sourceChroma s.coef = .ok n) :
    Raises (RaiseFits m) (finiteChroma n) := by
  obtain ⟨hpb, hpr⟩ := sourceChroma_eq_ok.mp hn
  exact .bind (raises_finite (hs (.coef .pb) _ hpb)) fun _ _ =>
    .bind (raises_finite (hs (.coef .pr) _ hpr)) fun _ _ => .pure trivial

theorem raises_finiteCoef {k : Part} {x : Number} (hx : source (sixPart s.coef k) = .ok x) :
    Raises (RaiseFits m) (finite x) :=
  raises_finite (hs (.coef k) x (source_eq_ok.mp hx))

end parts

/-! ### What every command keeps -/

/-- Nothing a command stores is an infinity or a NaN, and under EXACT no NONFINITE is raised, if no register and no
entry of the table holds one (R104, R112). -/
def KeepsFinite (s t : State) : Prop :=
  s.config.Valid → NumbersFinite s →
    NumbersFinite t ∧ (s.config.pnum = .exact → s.faultCode ≠ 4 → t.faultCode ≠ 4)

/-- A body of a command that stores finite numbers, and raises no NONFINITE under EXACT. -/
abbrev FiniteBody (s : State) (x : Checked State) : Prop :=
  Ends (fun t => NumbersFinite t ∧ t.fault = s.fault) (RaiseFits s.config.pnum) x

theorem keepsFinite_command {s t : State} {body : Checked State}
    (h : command s body = .next t) (hbody : s.config.Valid → NumbersFinite s → FiniteBody s body) :
    KeepsFinite s t := by
  intro hvalid hs
  rcases command_cases s body with ⟨-, he⟩ | ⟨-, t', rfl, he⟩ | ⟨-, e, rfl, he⟩ <;>
    obtain rfl := Host.Outcome.next.inj (he.symm.trans h)
  · exact ⟨hs, fun _ hcode => hcode⟩
  · obtain ⟨hfinite, hfault⟩ := hbody hvalid hs
    refine ⟨hfinite, fun _ hcode => ?_⟩
    rwa [State.faultCode, hfault]
  · refine ⟨fun n x hx => hs n x (by rwa [State.raise_number] at hx), fun hm _ => ?_⟩
    rw [State.raise_faultCode]
    have hcode := hbody hvalid hs hm
    cases hc : e.code <;> first | decide | exact absurd hc hcode

/-- Numbers written one after another, all finite. -/
theorem finiteBody_setNumbers {s : State} (hs : NumbersFinite s) {l : List (NumReg × Number)}
    (hl : ∀ e ∈ l, numberValue e.2 ≠ none) : FiniteBody s (pure (s.setNumbers l)) :=
  .pure ⟨numbersFinite_setNumbers hs hl, s.setNumbers_fault l⟩

section commands
variable {s t : State}

theorem execCscf_keepsFinite {idx : Byte} (h : execCscf idx s = .next t) : KeepsFinite s t :=
  keepsFinite_command h fun _ hs => .bind (raises_pixel _) fun p _ => .bind (raises_sourceRgb _) fun n hn =>
    .bind (raises_finiteRgb hs hn) fun x _ =>
      .bind (raises_computed (rgbToYpp · x) (Option.some_ne_none _)) fun z hz => by
        obtain ⟨hy, hpb, hpr⟩ := rounded_of_rgbToYpp (computed_eq_ok.mp hz)
        rw [setYpp_eq_setNumbers]
        refine finiteBody_setNumbers hs ?_
        simp [Ypp.map, hy.numberValue_ne_none, hpb.numberValue_ne_none, hpr.numberValue_ne_none]

theorem execCsci_keepsFinite {idx : Byte} (h : execCsci idx s = .next t) : KeepsFinite s t :=
  keepsFinite_command h fun _ hs => .bind (raises_pixel _) fun p _ => .bind (raises_sourceYpp _) fun n hn =>
    .bind (raises_finiteYpp hs hn) fun x _ =>
      .bind (raises_computed (yppToRgb · x) (Option.some_ne_none _)) fun z hz => by
        obtain ⟨hr, hg, hb⟩ := rounded_of_yppToRgb (computed_eq_ok.mp hz)
        rw [setRgb_eq_setNumbers]
        refine finiteBody_setNumbers hs ?_
        simp [Rgb.map, hr.numberValue_ne_none, hg.numberValue_ne_none, hb.numberValue_ne_none]

theorem execBtf_keepsFinite (h : execBtf s = .next t) : KeepsFinite s t :=
  keepsFinite_command h fun _ hs => .bind (raises_sourceQuad _) fun n hn =>
    .bind (raises_finiteQuad (k := .y) hs hn) fun y _ =>
      .bind (raises_computed (lumaForward · y) (Option.some_ne_none _)) fun z hz => by
        obtain ⟨ha, hb, hc, hd⟩ := rounded_of_lumaForward (computed_eq_ok.mp hz)
        rw [setCoefLuma_eq_setNumbers]
        refine finiteBody_setNumbers hs ?_
        simp [Luma.map, ha.numberValue_ne_none, hb.numberValue_ne_none, hc.numberValue_ne_none,
          hd.numberValue_ne_none]

theorem execBti_keepsFinite (h : execBti s = .next t) : KeepsFinite s t :=
  keepsFinite_command h fun _ hs => .bind (raises_sourceLuma _) fun n hn => .bind (raises_finiteLuma hs hn) fun x _ =>
    .bind (raises_computed (lumaInverse · x) (Option.some_ne_none _)) fun y hy => by
      obtain ⟨h1, h2, h3, h4⟩ := rounded_of_lumaInverse (computed_eq_ok.mp hy)
      rw [setSamplesY_eq_setNumbers]
      refine finiteBody_setNumbers hs ?_
      simp [Quad.map, h1.numberValue_ne_none, h2.numberValue_ne_none, h3.numberValue_ne_none,
        h4.numberValue_ne_none]

theorem execCavg_keepsFinite (h : execCavg s = .next t) : KeepsFinite s t :=
  keepsFinite_command h fun _ hs => .bind (raises_sourceQuad _) fun n hn => .bind (raises_sourceQuad _) fun k hk =>
    .bind (raises_finiteQuad (k := .pb) hs hn) fun x _ => .bind (raises_finiteQuad (k := .pr) hs hk) fun z _ =>
      .bind (raises_computed (mean4 · x) (Option.some_ne_none _)) fun pb hpb =>
        .bind (raises_computed (mean4 · z) (Option.some_ne_none _)) fun pr hpr => by
          have hpb' := rounded_of_mean4 (computed_eq_ok.mp hpb)
          have hpr' := rounded_of_mean4 (computed_eq_ok.mp hpr)
          rw [setCoefChroma_eq_setNumbers]
          refine finiteBody_setNumbers hs ?_
          simp [hpb'.numberValue_ne_none, hpr'.numberValue_ne_none]

/-- CREP copies the two numbers it has seen to be finite (R174). -/
theorem execCrep_keepsFinite (h : execCrep s = .next t) : KeepsFinite s t :=
  keepsFinite_command h fun _ hs => .bind (raises_sourceChroma _) fun n hn =>
    .bind (raises_finiteChroma hs hn) fun _ _ => by
      obtain ⟨hpb, hpr⟩ := sourceChroma_eq_ok.mp hn
      rw [setSamplesChroma_eq_setNumbers]
      refine finiteBody_setNumbers hs ?_
      simp [hs (.coef .pb) _ hpb, hs (.coef .pr) _ hpr]

theorem execQdc_keepsFinite (h : execQdc s = .next t) : KeepsFinite s t :=
  keepsFinite_command h fun _ hs => .bind (raises_source _) fun _ hn =>
    .bind (raises_finiteCoef (k := .a) hs hn) fun a _ =>
      .bind (raises_computed (encodeDc · a) (Option.some_ne_none _)) fun _ _ => .pure ⟨hs, rfl⟩

theorem execQac_keepsFinite (h : execQac s = .next t) : KeepsFinite s t :=
  keepsFinite_command h fun _ hs => .bind (raises_source _) fun _ hb => .bind (raises_source _) fun _ hc =>
    .bind (raises_source _) fun _ hd => .bind (raises_finiteCoef (k := .b) hs hb) fun x _ =>
      .bind (raises_finiteCoef (k := .c) hs hc) fun y _ => .bind (raises_finiteCoef (k := .d) hs hd) fun z _ =>
        .bind (raises_computed (encodeAc · x) (Option.some_ne_none _)) fun _ _ =>
          .bind (raises_computed (encodeAc · y) (Option.some_ne_none _)) fun _ _ =>
            .bind (raises_computed (encodeAc · z) (Option.some_ne_none _)) fun _ _ => .pure ⟨hs, rfl⟩

theorem execQch_keepsFinite (h : execQch s = .next t) : KeepsFinite s t :=
  keepsFinite_command h fun _ hs => .bind (raises_sourceChroma _) fun _ hn =>
    .bind (raises_finiteChroma hs hn) fun _ _ => .pure ⟨hs, rfl⟩

theorem execDqdc_keepsFinite (h : execDqdc s = .next t) : KeepsFinite s t :=
  keepsFinite_command h fun _ hs => .bind (raises_source _) fun q _ => .bind (raises_inRange _ _) fun _ _ =>
    .bind (raises_computed (decodeDc · (u64 q)) (Option.some_ne_none _)) fun a ha => by
      have ha' := rounded_of_decodeDc (computed_eq_ok.mp ha)
      rw [setCoefA_eq_setNumbers]
      refine finiteBody_setNumbers hs ?_
      simp [ha'.numberValue_ne_none]

theorem execDqac_keepsFinite (h : execDqac s = .next t) : KeepsFinite s t :=
  keepsFinite_command h fun _ hs => .bind (raises_source _) fun b _ => .bind (raises_source _) fun c _ =>
    .bind (raises_source _) fun d _ => .bind (raises_inRange _ _) fun _ _ => .bind (raises_inRange _ _) fun _ _ =>
      .bind (raises_inRange _ _) fun _ _ =>
        .bind (raises_computed (decodeAc · (i64 b)) (Option.some_ne_none _)) fun x hx =>
          .bind (raises_computed (decodeAc · (i64 c)) (Option.some_ne_none _)) fun y hy =>
            .bind (raises_computed (decodeAc · (i64 d)) (Option.some_ne_none _)) fun z hz => by
              have hx' := rounded_of_decodeAc (computed_eq_ok.mp hx)
              have hy' := rounded_of_decodeAc (computed_eq_ok.mp hy)
              have hz' := rounded_of_decodeAc (computed_eq_ok.mp hz)
              rw [setCoefDifferences_eq_setNumbers]
              refine finiteBody_setNumbers hs ?_
              simp [hx'.numberValue_ne_none, hy'.numberValue_ne_none, hz'.numberValue_ne_none]

/-- DQCH copies entries of the table, which are finite in a valid one (R10, R201). -/
theorem execDqch_keepsFinite (h : execDqch s = .next t) : KeepsFinite s t :=
  keepsFinite_command h fun hvalid hs => .bind (raises_sourceChroma _) fun x _ =>
    .bind (raises_inRange _ _) fun _ hpb => .bind (raises_inRange _ _) fun _ hpr => by
      have hpb' := numberValue_valueOf_ne_none hvalid (toNat_lt_of_inRange hpb)
      have hpr' := numberValue_valueOf_ne_none hvalid (toNat_lt_of_inRange hpr)
      rw [setCoefChroma_eq_setNumbers]
      refine finiteBody_setNumbers hs ?_
      simp [hpb', hpr']

theorem execPack_keepsFinite (h : execPack s = .next t) : KeepsFinite s t :=
  keepsFinite_command h fun _ hs => .bind (raises_sourceSix _) fun q _ => .bind (raises_fieldsFit q) fun _ _ =>
    .pure ⟨hs, rfl⟩

end commands

theorem exec_keepsFinite_single {i : Instr} (hi : ¬ Composite i) {s t : State} (h : exec i s = .next t) :
    KeepsFinite s t := by
  cases i with
  | fitsu width | fitss width | getu width lsb | gets width lsb =>
    exact keepsFinite_command h fun _ hs => .bind (raises_source _) fun _ _ => .bind (raises_precondition _) fun _ _ =>
      .pure ⟨hs, rfl⟩
  | setu width lsb | sets width lsb =>
    exact keepsFinite_command h fun _ hs => .bind (raises_source _) fun _ _ => .bind (raises_source _) fun _ _ =>
      .bind (raises_precondition _) fun _ _ => .bind (raises_inRange _ _) fun _ _ => .pure ⟨hs, rfl⟩
  | cscf idx => exact execCscf_keepsFinite h
  | csci idx => exact execCsci_keepsFinite h
  | btf => exact execBtf_keepsFinite h
  | bti => exact execBti_keepsFinite h
  | cavg => exact execCavg_keepsFinite h
  | crep => exact execCrep_keepsFinite h
  | qdc => exact execQdc_keepsFinite h
  | qac => exact execQac_keepsFinite h
  | qch => exact execQch_keepsFinite h
  | dqdc => exact execDqdc_keepsFinite h
  | dqac => exact execDqac_keepsFinite h
  | dqch => exact execDqch_keepsFinite h
  | pack => exact execPack_keepsFinite h
  | unpack => exact keepsFinite_command h fun _ hs => .bind (raises_source _) fun _ _ => .pure ⟨hs, rfl⟩
  | encblk => exact absurd trivial hi
  | decblk => exact absurd trivial hi

theorem KeepsFinite.trans {s t u : State} (hconfig : t.config = s.config) (hst : KeepsFinite s t)
    (htu : KeepsFinite t u) : KeepsFinite s u := by
  intro hvalid hs
  obtain ⟨ht, hcode⟩ := hst hvalid hs
  obtain ⟨hu, hcode'⟩ := htu (hconfig ▸ hvalid) ht
  exact ⟨hu, fun hm hc => hcode' (hconfig ▸ hm) (hcode hm hc)⟩

theorem runCommands_keepsFinite {cs : List Instr} (hc : ∀ c ∈ cs, ¬ Composite c) {s t : State}
    (h : runCommands cs s = .next t) : KeepsFinite s t := by
  induction cs generalizing s with
  | nil =>
    cases h
    exact fun _ hs => ⟨hs, fun _ hcode => hcode⟩
  | cons c cs ih =>
    obtain ⟨u, hu⟩ := exec_next c s
    rw [runCommands_cons, hu, andThen_next] at h
    exact (exec_keepsFinite_single (hc c List.mem_cons_self) hu).trans (exec_preserves c s u hu).1
      (ih (fun d hd => hc d (List.mem_cons_of_mem c hd)) h)

/-- Every command keeps the registers finite; a composite because its constituents do (R112, R244). -/
theorem exec_keepsFinite {i : Instr} {s t : State} (h : exec i s = .next t) : KeepsFinite s t := by
  by_cases hi : Composite i
  · rw [exec_composite hi] at h
    exact runCommands_keepsFinite (fun _ hc => not_composite_of_mem_constituents hc) h
  · exact exec_keepsFinite_single hi h

end Sys2Proof.Machine

namespace Sys2Proof.Proofs

open Machine

/-- Settles O21: what a command stores is a result of rounding, which its pattern denotes, or a copy of a number that
is finite already. -/
theorem commandsNeverStoreANonfinite : Obligations.CommandsNeverStoreANonfinite := by
  unfold Obligations.CommandsNeverStoreANonfinite
  intro i s t hvalid hs h
  exact (exec_keepsFinite h hvalid hs).1

/-- Settles O22: the numbers of EXACT are rationals, and its arithmetic is total. -/
theorem exactNeverRaisesNonfinite : Obligations.ExactNeverRaisesNonfinite := by
  unfold Obligations.ExactNeverRaisesNonfinite
  intro i s t hs hrun hm h
  obtain ⟨-, hvalid, hkind⟩ := hs
  have hcode : s.faultCode = 0 := by simpa [Running, State.halted] using hrun
  refine (exec_keepsFinite h hvalid (numbersFinite_of_exact hkind hm)).2 hm ?_
  rw [hcode]
  decide

end Sys2Proof.Proofs
end

section
/-! PROOFS of the family 40_numerics.md, fifth part: the Color Space Converter and the Block Transform (R151 to R176). A
command that reads finite numbers is a command that computes its mapping, which is equal to the rounded sums. -/

namespace Sys2Proof.Machine

/-! ### Commands that compute -/

section computes
variable {s : State} {α : Type} {o : Option α} {f : α → State}

/-- A command whose arithmetic answers a value stores it (R74). -/
theorem command_computed_some (hs : Running s) {a : α} (h : o = some a) :
    command s (computed o >>= fun a => pure (f a)) = .next (f a) := by
  rw [h]
  exact command_ok hs (f a)

/-- A command whose arithmetic overflows raises NONFINITE (R112 (b)). -/
theorem command_computed_none (hs : Running s) (h : o = none) :
    command s (computed o >>= fun a => pure (f a)) = .next { s with fault := 0x04 } := by
  rw [h]
  exact command_error hs ⟨.nonfinite, 0⟩

end computes

theorem pixelOf_of_index {idx : Byte} {p : Pixel} (h : idx.toNat = p.index) : pixelOf idx = some p := by
  unfold pixelOf
  rw [h]
  cases p <;> rfl

theorem pixel_of_gt {idx : Byte} (h : 3 < idx.toNat) : pixel idx = .error ⟨.illegalCmd, 0⟩ := by
  have hnone : pixelOf idx = none := by
    unfold pixelOf
    split <;> first | rfl | omega
  rw [pixel, hnone]

section sources
variable {s : State}

theorem execCscf_eq {idx : Byte} {p : Pixel} {n : Rgb Number} {x : Rgb Rat} (hp : idx.toNat = p.index)
    (hn : s.rgb.get p = n.map some) (hx : n.map numberValue = x.map some) :
    execCscf idx s = command s (computed (rgbToYpp s.config.pnum x) >>= fun z =>
      pure (s.setYpp p (z.map (numberOf s.config.pnum)))) := by
  rw [execCscf, pixel_of_pixelOf (pixelOf_of_index hp), Checked.ok_bind, sourceRgb_eq_ok.mpr hn, Checked.ok_bind,
    finiteRgb_eq_ok.mpr hx, Checked.ok_bind]

theorem execCsci_eq {idx : Byte} {p : Pixel} {n : Ypp Number} {x : Ypp Rat} (hp : idx.toNat = p.index)
    (hn : s.ypp.get p = n.map some) (hx : n.map numberValue = x.map some) :
    execCsci idx s = command s (computed (yppToRgb s.config.pnum x) >>= fun z =>
      pure (s.setRgb p (z.map (numberOf s.config.pnum)))) := by
  rw [execCsci, pixel_of_pixelOf (pixelOf_of_index hp), Checked.ok_bind, sourceYpp_eq_ok.mpr hn, Checked.ok_bind,
    finiteYpp_eq_ok.mpr hx, Checked.ok_bind]

theorem execBtf_eq {n : Quad Number} {y : Quad Rat} (hn : (s.ypp.map fun z => z.y) = n.map some)
    (hy : n.map numberValue = y.map some) :
    execBtf s = command s (computed (lumaForward s.config.pnum y) >>= fun z =>
      pure (s.setCoefLuma (z.map (numberOf s.config.pnum)))) := by
  rw [execBtf, sourceQuad_eq_ok.mpr hn, Checked.ok_bind, finiteQuad_eq_ok.mpr hy, Checked.ok_bind]

theorem execBti_eq {n : Luma Number} {x : Luma Rat}
    (hn : s.coef.a = some n.a ∧ s.coef.b = some n.b ∧ s.coef.c = some n.c ∧ s.coef.d = some n.d)
    (hx : n.map numberValue = x.map some) :
    execBti s = command s (computed (lumaInverse s.config.pnum x) >>= fun y =>
      pure (s.setSamplesY (y.map (numberOf s.config.pnum)))) := by
  rw [execBti, sourceLuma_eq_ok.mpr hn, Checked.ok_bind, finiteLuma_eq_ok.mpr hx, Checked.ok_bind]

theorem execCavg_eq {n k : Quad Number} {x z : Quad Rat} (hn : (s.ypp.map fun z => z.pb) = n.map some)
    (hk : (s.ypp.map fun z => z.pr) = k.map some) (hx : n.map numberValue = x.map some)
    (hz : k.map numberValue = z.map some) :
    execCavg s = command s (computed ((mean4 s.config.pnum x).bind fun pb =>
      (mean4 s.config.pnum z).bind fun pr => some (pb, pr)) >>= fun c =>
        pure (s.setCoefChroma ⟨numberOf s.config.pnum c.1, numberOf s.config.pnum c.2⟩)) := by
  rw [execCavg, sourceQuad_eq_ok.mpr hn, Checked.ok_bind, sourceQuad_eq_ok.mpr hk, Checked.ok_bind,
    finiteQuad_eq_ok.mpr hx, Checked.ok_bind, finiteQuad_eq_ok.mpr hz, Checked.ok_bind]
  cases mean4 s.config.pnum x with
  | none => rfl
  | some pb => cases mean4 s.config.pnum z <;> rfl

end sources

/-! ### CSCF in the contract range -/

/-- Integers of up to 24 bits over small powers of two, as decimals. -/
theorem onGrid_of_eq {x : Rat} (n : Int) (d : Nat) (h : x = n / 2 ^ d := by norm_num)
    (hn : |n| < 2 ^ 24 := by decide) (hd : d ≤ 149 := by decide) : OnGrid x :=
  h ▸ onGrid_div d hn hd

theorem roundTo_abs_le (m : PNum) {b x : Rat} (hb : OnGrid b) (h : |x| ≤ b) :
    ∃ y, roundTo m x = some y ∧ |y| ≤ b := by
  obtain ⟨hlo, hhi⟩ := abs_le.mp h
  obtain ⟨y, hy, hlo', hhi'⟩ := roundTo_between m (onGrid_neg hb) hb hlo hhi
  exact ⟨y, hy, abs_le.mpr ⟨hlo', hhi'⟩⟩

theorem abs_lit_le (m : PNum) {b c : Rat} (hb : OnGrid b) (h : |c| ≤ b) : |lit m c| ≤ b := by
  obtain ⟨y, hy, hle⟩ := roundTo_abs_le m hb h
  rwa [lit, hy, Option.getD_some]

/-- No coefficient of the forward matrix is above 5/8, so no rounded sum of its products reaches 2 (R151, R155). -/
theorem roundedDot_of_unit (m : PNum) {c c' c'' v v' v'' : Rat} (hc : |c| ≤ 5 / 8) (hc' : |c'| ≤ 5 / 8)
    (hc'' : |c''| ≤ 5 / 8) (hv : |v| ≤ 1) (hv' : |v'| ≤ 1) (hv'' : |v''| ≤ 1) :
    ∃ y, roundedDot m [(c, v), (c', v'), (c'', v'')] = some y ∧ |y| ≤ 15 / 8 := by
  have hproduct {c v : Rat} (hc : |c| ≤ 5 / 8) (hv : |v| ≤ 1) :
      ∃ p, roundTo m (lit m c * v) = some p ∧ |p| ≤ 5 / 8 := by
    refine roundTo_abs_le m (onGrid_of_eq 5 3) ?_
    rw [abs_mul]
    exact (mul_le_of_le_one_right (abs_nonneg _) hv).trans (abs_lit_le m (onGrid_of_eq 5 3) hc)
  obtain ⟨p, hp, hple⟩ := hproduct hc hv
  obtain ⟨p', hp', hple'⟩ := hproduct hc' hv'
  obtain ⟨p'', hp'', hple''⟩ := hproduct hc'' hv''
  obtain ⟨y, hy, hyle⟩ := roundTo_abs_le m (x := p + p') (b := 5 / 4) (onGrid_of_eq 5 2)
    ((abs_add_le p p').trans (by linarith))
  obtain ⟨z, hz, hzle⟩ := roundTo_abs_le m (x := y + p'') (b := 15 / 8) (onGrid_of_eq 15 3)
    ((abs_add_le y p'').trans (by linarith))
  refine ⟨z, ?_, hzle⟩
  simp only [roundedDot_cons, roundedAffine_cons, roundedAffine_nil, hp, hp', hp'', hy, hz, Option.bind_some]

/-- The forward mapping of the contract range, under either `P_NUM` (R112, R155). -/
theorem rgbToYpp_of_unit (m : PNum) {x : Rgb Rat} (hr : |x.r| ≤ 1) (hg : |x.g| ≤ 1) (hb : |x.b| ≤ 1) :
    ∃ z, rgbToYpp m x = some z ∧ |z.y| < 2 ∧ |z.pb| < 2 ∧ |z.pr| < 2 := by
  obtain ⟨y, hy, hyle⟩ := roundedDot_of_unit m (c := 299 / 1000) (c' := 587 / 1000) (c'' := 114 / 1000)
    (by norm_num) (by norm_num) (by norm_num) hr hg hb
  obtain ⟨pb, hpb, hpble⟩ := roundedDot_of_unit m (c := -168736 / 10 ^ 6) (c' := -331264 / 10 ^ 6) (c'' := 5 / 10)
    (by norm_num [abs_div]) (by norm_num [abs_div]) (by norm_num) hr hg hb
  obtain ⟨pr, hpr, hprle⟩ := roundedDot_of_unit m (c := 5 / 10) (c' := -418688 / 10 ^ 6) (c'' := -81312 / 10 ^ 6)
    (by norm_num) (by norm_num [abs_div]) (by norm_num [abs_div]) hr hg hb
  refine ⟨⟨y, pb, pr⟩, ?_, hyle.trans_lt (by norm_num), hpble.trans_lt (by norm_num), hprle.trans_lt (by norm_num)⟩
  simp only [rgbToYpp_eq, hy, hpb, hpr, Option.bind_some]

/-- The ranges of the forward mapping under EXACT (R155). -/
theorem rgbToYpp_exact_ranges {x : Rgb Rat} {z : Ypp Rat} (h : rgbToYpp .exact x = some z)
    (hr : 0 ≤ x.r ∧ x.r ≤ 1) (hg : 0 ≤ x.g ∧ x.g ≤ 1) (hb : 0 ≤ x.b ∧ x.b ≤ 1) :
    0 ≤ z.y ∧ z.y ≤ 1 ∧ |z.pb| ≤ 1 / 2 ∧ |z.pr| ≤ 1 / 2 := by
  obtain rfl := Option.some.inj h
  obtain ⟨hr, hr1⟩ := hr
  obtain ⟨hg, hg1⟩ := hg
  obtain ⟨hb, hb1⟩ := hb
  simp only [lit_exact, fneg, abs_le]
  refine ⟨?_, ?_, ⟨?_, ?_⟩, ?_, ?_⟩ <;> linarith

end Sys2Proof.Machine

namespace Sys2Proof.Proofs

open Machine

/-- Settles O24: a rounded product is at most 5/8 in size and a sum of three at most 15/8, so nothing overflows. -/
theorem cscfNeverFaultsInContract : Obligations.CscfNeverFaultsInContract := by
  unfold Obligations.CscfNeverFaultsInContract
  intro s idx p n x hs hp hn hx hr hr1 hg hg1 hb hb1
  obtain ⟨z, hz, hy, hpb, hpr⟩ := rgbToYpp_of_unit s.config.pnum (abs_le.mpr ⟨by linarith, hr1⟩)
    (abs_le.mpr ⟨by linarith, hg1⟩) (abs_le.mpr ⟨by linarith, hb1⟩)
  refine ⟨z, (execCscf_eq hp hn hx).trans (command_computed_some hs hz), hy, hpb, hpr, fun hm => ?_⟩
  exact rgbToYpp_exact_ranges (hm ▸ hz) ⟨hr, hr1⟩ ⟨hg, hg1⟩ ⟨hb, hb1⟩

/-- Settles O25: the inverse mapping is the three rounded sums, one after another. -/
theorem csciAppliesTheInverseMatrix : Obligations.CsciAppliesTheInverseMatrix := by
  unfold Obligations.CsciAppliesTheInverseMatrix
  intro s idx hs
  refine ⟨fun p n x hp hn hx => ?_, fun h => ?_⟩
  · have heq := execCsci_eq hp hn hx
    rw [yppToRgb_eq] at heq
    refine ⟨fun r g b hr hg hb => heq.trans (command_computed_some hs (a := (⟨r, g, b⟩ : Rgb Rat)) ?_),
      fun hnone => heq.trans (command_computed_none hs ?_)⟩
    · rw [hr, hg, hb]
      rfl
    · rcases hnone with h | h | h <;> simp [h]
  · show execCsci idx s = _
    rw [execCsci, pixel_of_gt h]
    exact command_error hs ⟨.illegalCmd, 0⟩

/-- Settles O27: the forward transform is the four quartered sums, one after another. -/
theorem btfTakesTheFourSignedMeans : Obligations.BtfTakesTheFourSignedMeans := by
  unfold Obligations.BtfTakesTheFourSignedMeans
  intro s n y1 y2 y3 y4 hs hn hy
  have heq := execBtf_eq (y := ⟨y1, y2, y3, y4⟩) hn hy
  rw [lumaForward_eq] at heq
  refine ⟨fun a b c d ha hb hc hd => heq.trans (command_computed_some hs (a := (⟨a, b, c, d⟩ : Luma Rat)) ?_),
    fun hnone => heq.trans (command_computed_none hs ?_)⟩
  · rw [ha, hb, hc, hd]
    rfl
  · rcases hnone with h | h | h | h <;> simp [h]

/-- Settles O28: the inverse transform is the four sums, one after another. -/
theorem btiTakesTheFourSignedSums : Obligations.BtiTakesTheFourSignedSums := by
  unfold Obligations.BtiTakesTheFourSignedSums
  intro s n x hs ha hb hc hd hx
  have heq := execBti_eq ⟨ha, hb, hc, hd⟩ hx
  rw [lumaInverse_eq] at heq
  refine ⟨fun y1 y2 y3 y4 h1 h2 h3 h4 => heq.trans (command_computed_some hs (a := (⟨y1, y2, y3, y4⟩ : Quad Rat)) ?_),
    fun hnone => heq.trans (command_computed_none hs ?_)⟩
  · rw [h1, h2, h3, h4]
    rfl
  · rcases hnone with h | h | h | h <;> simp [h]

/-- Settles O30: the two means, one after the other. -/
theorem cavgTakesTheChromaMeans : Obligations.CavgTakesTheChromaMeans := by
  unfold Obligations.CavgTakesTheChromaMeans
  intro s n k x z hs hn hk hx hz
  have heq := execCavg_eq hn hk hx hz
  rw [mean4_eq, mean4_eq] at heq
  refine ⟨fun pb pr hpb hpr => heq.trans (command_computed_some hs (a := (pb, pr)) ?_),
    fun hnone => heq.trans (command_computed_none hs ?_)⟩
  · rw [hpb, hpr]
    rfl
  · rcases hnone with h | h <;> simp [h]

end Sys2Proof.Proofs
end

section
/-! PROOFS of the family 40_numerics.md, sixth part: an infinity or a NaN among the sources of a command (R112 (a)).
Once all sources are read, the command looks at each and raises NONFINITE at the first without a finite value. -/

namespace Sys2Proof.Machine

/-! ### Looking at the sources -/

/-- The fault of a source without a finite value (R112). -/
abbrev nonfiniteRaise : Raise := ⟨.nonfinite, 0⟩

section finite
variable {β : Type}

theorem finite_bind_nonfinite {x : Number} {f : Rat → Checked β}
    (h : numberValue x = none ∨ ∀ q, f q = .error nonfiniteRaise) : (finite x >>= f) = .error nonfiniteRaise := by
  cases hx : numberValue x with
  | none => rw [finite_of_none hx, Checked.error_bind]
  | some q =>
    rw [finite_of_value hx, Checked.ok_bind]
    exact h.resolve_left (by simp [hx]) q

/-- Three numbers looked at one after another. -/
theorem finite3_bind_nonfinite {x y z : Number} {f : Rat → Rat → Rat → Checked β}
    (h : numberValue x = none ∨ numberValue y = none ∨ numberValue z = none) :
    (finite x >>= fun a => finite y >>= fun b => finite z >>= fun c => f a b c) = .error nonfiniteRaise :=
  finite_bind_nonfinite <| h.imp_right fun h _ => finite_bind_nonfinite <| h.imp_right fun h _ =>
    finite_bind_nonfinite (.inl h)

/-- Four numbers looked at one after another. -/
theorem finite4_bind_nonfinite {x y z w : Number} {f : Rat → Rat → Rat → Rat → Checked β}
    (h : numberValue x = none ∨ numberValue y = none ∨ numberValue z = none ∨ numberValue w = none) :
    (finite x >>= fun a => finite y >>= fun b => finite z >>= fun c => finite w >>= fun d => f a b c d) =
      .error nonfiniteRaise :=
  finite_bind_nonfinite <| h.imp_right fun h _ => finite3_bind_nonfinite h

end finite

theorem finiteRgb_nonfinite {x : Rgb Number}
    (h : numberValue x.r = none ∨ numberValue x.g = none ∨ numberValue x.b = none) :
    finiteRgb x = .error nonfiniteRaise := finite3_bind_nonfinite h

theorem finiteYpp_nonfinite {x : Ypp Number}
    (h : numberValue x.y = none ∨ numberValue x.pb = none ∨ numberValue x.pr = none) :
    finiteYpp x = .error nonfiniteRaise := finite3_bind_nonfinite h

theorem finiteQuad_nonfinite {x : Quad Number}
    (h : numberValue x.topLeft = none ∨ numberValue x.topRight = none ∨ numberValue x.bottomLeft = none ∨
      numberValue x.bottomRight = none) : finiteQuad x = .error nonfiniteRaise := finite4_bind_nonfinite h

theorem finiteLuma_nonfinite {x : Luma Number}
    (h : numberValue x.a = none ∨ numberValue x.b = none ∨ numberValue x.c = none ∨ numberValue x.d = none) :
    finiteLuma x = .error nonfiniteRaise := finite4_bind_nonfinite h

theorem finiteChroma_nonfinite {x : Chroma Number} (h : numberValue x.pb = none ∨ numberValue x.pr = none) :
    finiteChroma x = .error nonfiniteRaise :=
  finite_bind_nonfinite <| h.imp_right fun h _ => finite_bind_nonfinite (.inl h)

/-- A group of four numbers that raises no NONFINITE is finite (R112). -/
theorem finiteQuad_cases (x : Quad Number) : finiteQuad x = .error nonfiniteRaise ∨ ∃ z, finiteQuad x = .ok z := by
  by_cases h : numberValue x.topLeft = none ∨ numberValue x.topRight = none ∨ numberValue x.bottomLeft = none ∨
      numberValue x.bottomRight = none
  · exact .inl (finiteQuad_nonfinite h)
  · simp only [not_or, Option.ne_none_iff_exists'] at h
    obtain ⟨⟨a, ha⟩, ⟨b, hb⟩, ⟨c, hc⟩, d, hd⟩ := h
    exact .inr ⟨⟨a, b, c, d⟩, finiteQuad_eq_ok.mpr (by simp [Quad.map, ha, hb, hc, hd])⟩

/-- CAVG looks at its eight sources in two groups (R173). -/
theorem finiteQuad_bind_nonfinite {β : Type} {x : Quad Number} {f : Quad Rat → Checked β}
    (h : finiteQuad x = .error nonfiniteRaise ∨ ∀ z, f z = .error nonfiniteRaise) :
    (finiteQuad x >>= f) = .error nonfiniteRaise := by
  rcases finiteQuad_cases x with hx | ⟨z, hz⟩
  · exact Checked.bind_error hx f
  · rw [hz, Checked.ok_bind]
    refine h.elim (fun hx => ?_) (fun hf => hf z)
    rw [hz] at hx
    cases hx

/-! ### Written sources -/

section sources
variable {s : State}

theorem number_of_written {n : NumReg} (h : ¬ Unwritten s (.num n)) : ∃ x, s.number n = some x :=
  Option.ne_none_iff_exists'.mp h

theorem sourceRgb_of_written {p : Pixel} (h : ∀ y ∈ rgbRegs p, ¬ Unwritten s y) :
    ∃ n, sourceRgb (s.rgb.get p) = .ok n ∧ ∀ k, s.number (.rgb p k) = some (rgbPart n k) := by
  obtain ⟨r, hr⟩ := number_of_written (h (.num (.rgb p .r)) (by simp [rgbRegs]))
  obtain ⟨g, hg⟩ := number_of_written (h (.num (.rgb p .g)) (by simp [rgbRegs]))
  obtain ⟨b, hb⟩ := number_of_written (h (.num (.rgb p .b)) (by simp [rgbRegs]))
  refine ⟨⟨r, g, b⟩, sourceRgb_eq_ok.mpr ((Rgb.mk.injEq ..).mpr ⟨hr, hg, hb⟩), fun k => ?_⟩
  cases k <;> assumption

theorem sourceYpp_of_written {p : Pixel} (h : ∀ y ∈ yppRegs p, ¬ Unwritten s y) :
    ∃ n, sourceYpp (s.ypp.get p) = .ok n ∧ ∀ k, s.number (.ypp p k) = some (yppPart n k) := by
  obtain ⟨y, hy⟩ := number_of_written (h (.num (.ypp p .y)) (by simp [yppRegs]))
  obtain ⟨pb, hpb⟩ := number_of_written (h (.num (.ypp p .pb)) (by simp [yppRegs]))
  obtain ⟨pr, hpr⟩ := number_of_written (h (.num (.ypp p .pr)) (by simp [yppRegs]))
  refine ⟨⟨y, pb, pr⟩, sourceYpp_eq_ok.mpr ((Ypp.mk.injEq ..).mpr ⟨hy, hpb, hpr⟩), fun k => ?_⟩
  cases k <;> assumption

theorem sourceQuad_of_written {k : YppPart} (h : ∀ p, ¬ Unwritten s (.num (.ypp p k))) :
    ∃ n, sourceQuad (s.ypp.map fun z => yppPart z k) = .ok n ∧ ∀ p, s.number (.ypp p k) = some (n.get p) := by
  obtain ⟨a, ha⟩ := number_of_written (h .topLeft)
  obtain ⟨b, hb⟩ := number_of_written (h .topRight)
  obtain ⟨c, hc⟩ := number_of_written (h .bottomLeft)
  obtain ⟨d, hd⟩ := number_of_written (h .bottomRight)
  refine ⟨⟨a, b, c, d⟩, sourceQuad_eq_ok.mpr ((Quad.mk.injEq ..).mpr ⟨ha, hb, hc, hd⟩), fun p => ?_⟩
  cases p <;> assumption

end sources

/-! ### Commands on a source without a finite value -/

/-- A register holds an infinity or a NaN (R112). -/
def HoldsNonfinite (s : State) : Reg → Prop
  | .num n => ∃ x, s.number n = some x ∧ numberValue x = none
  | _ => False

theorem command_nonfinite {s : State} (hs : Running s) {body : Checked State} (h : body = .error nonfiniteRaise) :
    command s body = .next (s.raise nonfiniteRaise) := by
  rw [h]
  exact command_error hs nonfiniteRaise

section commands
variable {s : State} (hs : Running s)
include hs

theorem execCscf_nonfinite {idx : Byte} (hw : ∀ y ∈ reads (.cscf idx), ¬ Unwritten s y)
    (h : ∃ y ∈ reads (.cscf idx), HoldsNonfinite s y) : execCscf idx s = .next (s.raise nonfiniteRaise) := by
  cases hp : pixelOf idx with
  | none => simp [reads, hp] at h
  | some p =>
    simp only [reads, hp, Option.elim] at hw h
    obtain ⟨n, hsource, hn⟩ := sourceRgb_of_written hw
    refine command_nonfinite hs ?_
    rw [pixel_of_pixelOf hp, Checked.ok_bind, hsource, Checked.ok_bind]
    refine Checked.bind_error (finiteRgb_nonfinite ?_) _
    simpa [rgbRegs, HoldsNonfinite, hn, rgbPart] using h

theorem execCsci_nonfinite {idx : Byte} (hw : ∀ y ∈ reads (.csci idx), ¬ Unwritten s y)
    (h : ∃ y ∈ reads (.csci idx), HoldsNonfinite s y) : execCsci idx s = .next (s.raise nonfiniteRaise) := by
  cases hp : pixelOf idx with
  | none => simp [reads, hp] at h
  | some p =>
    simp only [reads, hp, Option.elim] at hw h
    obtain ⟨n, hsource, hn⟩ := sourceYpp_of_written hw
    refine command_nonfinite hs ?_
    rw [pixel_of_pixelOf hp, Checked.ok_bind, hsource, Checked.ok_bind]
    refine Checked.bind_error (finiteYpp_nonfinite ?_) _
    simpa [yppRegs, HoldsNonfinite, hn, yppPart] using h

theorem execBtf_nonfinite (hw : ∀ y ∈ reads .btf, ¬ Unwritten s y) (h : ∃ y ∈ reads .btf, HoldsNonfinite s y) :
    execBtf s = .next (s.raise nonfiniteRaise) := by
  obtain ⟨n, hsource, hn⟩ := sourceQuad_of_written (k := .y) fun p =>
    hw (.num (.ypp p .y)) (by cases p <;> simp [reads, lumaRegs])
  refine command_nonfinite hs ?_
  rw [show (s.ypp.map fun z => z.y) = s.ypp.map fun z => yppPart z .y from rfl, hsource, Checked.ok_bind]
  refine Checked.bind_error (finiteQuad_nonfinite ?_) _
  simpa [reads, lumaRegs, HoldsNonfinite, hn, Quad.get] using h

theorem execBti_nonfinite (hw : ∀ y ∈ reads .bti, ¬ Unwritten s y) (h : ∃ y ∈ reads .bti, HoldsNonfinite s y) :
    execBti s = .next (s.raise nonfiniteRaise) := by
  obtain ⟨a, ha⟩ := number_of_written (hw (.num (.coef .a)) (by simp [reads]))
  obtain ⟨b, hb⟩ := number_of_written (hw (.num (.coef .b)) (by simp [reads]))
  obtain ⟨c, hc⟩ := number_of_written (hw (.num (.coef .c)) (by simp [reads]))
  obtain ⟨d, hd⟩ := number_of_written (hw (.num (.coef .d)) (by simp [reads]))
  have hsource : sourceLuma s.coef = .ok ⟨a, b, c, d⟩ := sourceLuma_eq_ok.mpr ⟨ha, hb, hc, hd⟩
  refine command_nonfinite hs ?_
  rw [hsource, Checked.ok_bind]
  refine Checked.bind_error (finiteLuma_nonfinite ?_) _
  simpa [reads, HoldsNonfinite, ha, hb, hc, hd] using h

theorem execCavg_nonfinite (hw : ∀ y ∈ reads .cavg, ¬ Unwritten s y) (h : ∃ y ∈ reads .cavg, HoldsNonfinite s y) :
    execCavg s = .next (s.raise nonfiniteRaise) := by
  obtain ⟨n, hsource, hn⟩ := sourceQuad_of_written (k := .pb) fun p =>
    hw (.num (.ypp p .pb)) (by cases p <;> simp [reads, chromaRegs])
  obtain ⟨k, hsource', hk⟩ := sourceQuad_of_written (k := .pr) fun p =>
    hw (.num (.ypp p .pr)) (by cases p <;> simp [reads, chromaRegs])
  have hgroups : (numberValue n.topLeft = none ∨ numberValue n.topRight = none ∨ numberValue n.bottomLeft = none ∨
      numberValue n.bottomRight = none) ∨ (numberValue k.topLeft = none ∨ numberValue k.topRight = none ∨
      numberValue k.bottomLeft = none ∨ numberValue k.bottomRight = none) := by
    simpa [reads, chromaRegs, HoldsNonfinite, hn, hk, Quad.get, or_assoc] using h
  refine command_nonfinite hs ?_
  rw [show (s.ypp.map fun z => z.pb) = s.ypp.map fun z => yppPart z .pb from rfl, hsource, Checked.ok_bind,
    show (s.ypp.map fun z => z.pr) = s.ypp.map fun z => yppPart z .pr from rfl, hsource', Checked.ok_bind]
  exact finiteQuad_bind_nonfinite <| hgroups.imp finiteQuad_nonfinite fun hpr _ =>
    Checked.bind_error (finiteQuad_nonfinite hpr) _

/-- The chroma coefficients, read by CREP and QCH. -/
theorem command_sourceChroma_nonfinite (hw : ∀ y ∈ reads .crep, ¬ Unwritten s y)
    (h : ∃ y ∈ reads .crep, HoldsNonfinite s y) (f : Chroma Number → Chroma Rat → Checked State) :
    (command s (sourceChroma s.coef >>= fun x => finiteChroma x >>= f x)) = .next (s.raise nonfiniteRaise) := by
  obtain ⟨pb, hpb⟩ := number_of_written (hw (.num (.coef .pb)) (by simp [reads]))
  obtain ⟨pr, hpr⟩ := number_of_written (hw (.num (.coef .pr)) (by simp [reads]))
  have hsource : sourceChroma s.coef = .ok ⟨pb, pr⟩ := sourceChroma_eq_ok.mpr ⟨hpb, hpr⟩
  refine command_nonfinite hs ?_
  rw [hsource, Checked.ok_bind]
  refine Checked.bind_error (finiteChroma_nonfinite ?_) _
  simpa [reads, HoldsNonfinite, hpb, hpr] using h

theorem execQdc_nonfinite (hw : ∀ y ∈ reads .qdc, ¬ Unwritten s y) (h : ∃ y ∈ reads .qdc, HoldsNonfinite s y) :
    execQdc s = .next (s.raise nonfiniteRaise) := by
  obtain ⟨a, ha⟩ := number_of_written (hw (.num (.coef .a)) (by simp [reads]))
  have hsource : source s.coef.a = .ok a := source_eq_ok.mpr ha
  refine command_nonfinite hs ?_
  rw [hsource, Checked.ok_bind]
  refine finite_bind_nonfinite (.inl ?_)
  simpa [reads, HoldsNonfinite, ha] using h

theorem execQac_nonfinite (hw : ∀ y ∈ reads .qac, ¬ Unwritten s y) (h : ∃ y ∈ reads .qac, HoldsNonfinite s y) :
    execQac s = .next (s.raise nonfiniteRaise) := by
  obtain ⟨b, hb⟩ := number_of_written (hw (.num (.coef .b)) (by simp [reads]))
  obtain ⟨c, hc⟩ := number_of_written (hw (.num (.coef .c)) (by simp [reads]))
  obtain ⟨d, hd⟩ := number_of_written (hw (.num (.coef .d)) (by simp [reads]))
  have hsource_b : source s.coef.b = .ok b := source_eq_ok.mpr hb
  have hsource_c : source s.coef.c = .ok c := source_eq_ok.mpr hc
  have hsource_d : source s.coef.d = .ok d := source_eq_ok.mpr hd
  refine command_nonfinite hs ?_
  rw [hsource_b, Checked.ok_bind, hsource_c, Checked.ok_bind, hsource_d, Checked.ok_bind]
  refine finite3_bind_nonfinite ?_
  simpa [reads, HoldsNonfinite, hb, hc, hd] using h

end commands

/-- A single-stage command looks at all its sources before it computes (R112 (a), R270). -/
theorem exec_nonfinite_single {i : Instr} (hi : ¬ Composite i) {s : State} (hs : Running s)
    (hw : ∀ y ∈ reads i, ¬ Unwritten s y) (h : ∃ y ∈ reads i, HoldsNonfinite s y) :
    exec i s = .next (s.raise nonfiniteRaise) := by
  cases i with
  | cscf idx => exact execCscf_nonfinite hs hw h
  | csci idx => exact execCsci_nonfinite hs hw h
  | btf => exact execBtf_nonfinite hs hw h
  | bti => exact execBti_nonfinite hs hw h
  | cavg => exact execCavg_nonfinite hs hw h
  | crep | qch => exact command_sourceChroma_nonfinite hs hw h _
  | qdc => exact execQdc_nonfinite hs hw h
  | qac => exact execQac_nonfinite hs hw h
  | encblk | decblk => exact absurd trivial hi
  | fitsu | fitss | getu | gets | setu | sets | dqdc | dqac | dqch | pack | unpack =>
    simp [reads, allQ, HoldsNonfinite] at h

end Sys2Proof.Machine

namespace Sys2Proof.Proofs

open Machine

/-- Settles O31: CREP looks at the pair and copies it, or raises NONFINITE. -/
theorem crepCopiesTheChromaPair : Obligations.CrepCopiesTheChromaPair := by
  unfold Obligations.CrepCopiesTheChromaPair
  intro s pb pr hs hpb hpr
  have hsource : sourceChroma s.coef = .ok ⟨pb, pr⟩ := sourceChroma_eq_ok.mpr ⟨hpb, hpr⟩
  refine ⟨fun h h' => ?_, fun h => ?_⟩
  · obtain ⟨x, hx⟩ := Option.ne_none_iff_exists'.mp h
    obtain ⟨z, hz⟩ := Option.ne_none_iff_exists'.mp h'
    have hfinite : finiteChroma ⟨pb, pr⟩ = .ok ⟨x, z⟩ := finiteChroma_eq_ok.mpr ((Chroma.mk.injEq ..).mpr ⟨hx, hz⟩)
    show execCrep s = _
    rw [execCrep, hsource, Checked.ok_bind, hfinite]
    exact command_ok hs _
  · show execCrep s = _
    rw [execCrep, hsource, Checked.ok_bind]
    exact command_nonfinite hs (Checked.bind_error (finiteChroma_nonfinite h) _)

/-- Settles O32: a single-stage command looks at all its sources before it computes. -/
theorem nonfiniteSourceRaises : Obligations.NonfiniteSourceRaises := by
  unfold Obligations.NonfiniteSourceRaises
  intro i s n x hs hi hw hn hx hnone
  exact exec_nonfinite_single hi hs hw ⟨.num n, hn, x, hx, hnone⟩

end Sys2Proof.Proofs
end

section
/-! PROOFS of the family 40_numerics.md, seventh part: the luma quantisers (R191 to R193). Values of the grid
bound every step of a code, and rounding leaves them as they are, so a code stays in its range and saturates where its
scaled value does. -/

namespace Sys2Proof.Machine

/-! ### Literals and values of the grid -/

theorem lit_zero (m : PNum) : lit m 0 = 0 := lit_of_onGrid m onGrid_zero

theorem lit_one (m : PNum) : lit m 1 = 1 := lit_of_onGrid m (onGrid_of_eq 1 0)

theorem lit_half (m : PNum) : lit m (5 / 10) = 1 / 2 := by
  rw [show (5 / 10 : Rat) = 1 / 2 by norm_num]
  exact lit_of_onGrid m (onGrid_of_eq 1 1)

theorem lit_15 (m : PNum) : lit m 15 = 15 := lit_of_onGrid m (onGrid_of_eq 15 0)

theorem lit_511 (m : PNum) : lit m 511 = 511 := lit_of_onGrid m (onGrid_of_eq 511 0)

/-- The limit of the luma differences is positive under either `P_NUM` (R192). -/
theorem lit_limit_pos (m : PNum) : 0 < lit m (3 / 10) := by
  obtain ⟨y, hy, hlo, -⟩ := roundTo_between m (a := 1 / 4) (b := 1 / 2) (x := 3 / 10) (onGrid_of_eq 1 2)
    (onGrid_of_eq 1 1) (by norm_num) (by norm_num)
  rw [lit, hy, Option.getD_some]
  linarith

theorem eq_of_roundTo_onGrid {m : PNum} {x y : Rat} (h : roundTo m x = some y) (hx : OnGrid x) : y = x := by
  rw [roundTo_of_onGrid m hx] at h
  exact (Option.some.inj h).symm

/-! ### The luma average -/

/-- The steps of the code of a luma average, the last of them between 1/2 and 511 1/2 (R191). -/
theorem encodeDc_steps (m : PNum) (x : Rat) :
    ∃ u z, roundTo m (max 0 (min x 1) * 511) = some u ∧ roundTo m (u + 1 / 2) = some z ∧
      encodeDc m x = some ⌊z⌋ ∧ 1 / 2 ≤ z ∧ z ≤ 1023 / 2 := by
  have hc0 : 0 ≤ max 0 (min x 1) := le_max_left _ _
  have hc1 : max 0 (min x 1) ≤ 1 := max_le zero_le_one (min_le_right _ _)
  obtain ⟨u, hu, hu0, hu1⟩ := roundTo_between m (x := max 0 (min x 1) * 511) onGrid_zero
    (onGrid_of_eq (x := 511) 511 0) (by linarith) (by linarith)
  obtain ⟨z, hz, hz0, hz1⟩ := roundTo_between m (x := u + 1 / 2) (onGrid_of_eq (x := 1 / 2) 1 1)
    (onGrid_of_eq (x := 1023 / 2) 1023 1) (by linarith) (by linarith)
  refine ⟨u, z, hu, hz, ?_, hz0, hz1⟩
  simp only [encodeDc, fclamp_eq x zero_le_one, lit_zero, lit_one, lit_511, lit_half, fmul, fadd, hu, hz,
    Option.bind_eq_bind, Option.bind_some, Option.pure_def, ffloor]

/-- The code of a luma average exists and is the one R191 describes. -/
theorem encodeDc_isDcCode (m : PNum) (x : Rat) : ∃ k : Nat, encodeDc m x = some (k : Int) ∧ IsDcCode m x k := by
  obtain ⟨u, z, hu, hz, hencode, hz0, hz1⟩ := encodeDc_steps m x
  obtain ⟨k, hk⟩ := Int.eq_ofNat_of_zero_le (Int.floor_nonneg.mpr (show 0 ≤ z by linarith))
  obtain ⟨hkz, hzk⟩ := Int.floor_eq_iff.mp hk
  rw [Int.cast_natCast] at hkz hzk
  have hkmax : k < 512 := by
    have hlt : (k : Rat) < 512 := by linarith
    exact_mod_cast hlt
  refine ⟨k, hk ▸ hencode, by omega, fun hx => ?_, fun hx => ?_, ⟨u, z, hu, hz, hk.symm⟩, fun hm hx0 hx1 => ?_⟩
  · rw [max_eq_left ((min_le_left x 1).trans hx), zero_mul] at hu
    obtain rfl := eq_of_roundTo_onGrid hu onGrid_zero
    obtain rfl := eq_of_roundTo_onGrid hz (onGrid_of_eq 1 1)
    have hlt : (k : Rat) < 1 := by linarith
    exact Nat.lt_one_iff.mp (by exact_mod_cast hlt)
  · rw [min_eq_right hx, max_eq_right zero_le_one] at hu
    obtain rfl := eq_of_roundTo_onGrid hu (onGrid_of_eq 511 0)
    obtain rfl := eq_of_roundTo_onGrid hz (onGrid_of_eq 1023 1)
    have hgt : (510 : Rat) < k := by linarith
    have hgt' : 510 < k := by exact_mod_cast hgt
    omega
  · subst hm
    rw [min_eq_left hx1, max_eq_right hx0] at hu
    obtain rfl := Option.some.inj hu
    obtain rfl := Option.some.inj hz
    rw [div_le_iff₀ (by norm_num), lt_div_iff₀ (by norm_num)]
    constructor <;> linarith

/-! ### The luma differences -/

/-- A clamped number that is not at a bound was not changed (R110). -/
theorem eq_of_clamp {lo hi x c : Rat} (h : max lo (min x hi) = c) (hlo : lo < c) (hhi : c < hi) : x = c := by
  have hmin : min x hi = c := (max_choice lo (min x hi)).elim (fun he => absurd (he ▸ h) hlo.ne) fun he => he ▸ h
  exact (min_choice x hi).elim (fun he => he ▸ hmin) fun he => absurd (he ▸ hmin) hhi.ne'

/-- The steps of the code of a luma difference, for the limit `l`, the last of them between -14 1/2 and 15 1/2 (R192,
R193). -/
theorem encodeAc_steps (m : PNum) (x : Rat) {l : Rat} (hl : lit m (3 / 10) = l) :
    ∃ u v z, roundTo m (max (-l) (min x l) / l) = some u ∧ roundTo m (u * 15) = some v ∧
      roundTo m (v + 1 / 2) = some z ∧ encodeAc m x = some ⌊z⌋ ∧ -29 / 2 ≤ z ∧ z ≤ 31 / 2 := by
  have hpos : 0 < l := hl ▸ lit_limit_pos m
  have hc0 : -l ≤ max (-l) (min x l) := le_max_left _ _
  have hc1 : max (-l) (min x l) ≤ l := max_le (by linarith) (min_le_right _ _)
  obtain ⟨u, hu, hu0, hu1⟩ := roundTo_between m (onGrid_of_eq (x := -1) (-1) 0) (onGrid_of_eq (x := 1) 1 0)
    ((le_div_iff₀ hpos).mpr (by linarith)) ((div_le_iff₀ hpos).mpr (by linarith))
  obtain ⟨v, hv, hv0, hv1⟩ := roundTo_between m (x := u * 15) (onGrid_of_eq (x := -15) (-15) 0)
    (onGrid_of_eq (x := 15) 15 0) (by linarith) (by linarith)
  obtain ⟨z, hz, hz0, hz1⟩ := roundTo_between m (x := v + 1 / 2) (onGrid_of_eq (x := -29 / 2) (-29) 1)
    (onGrid_of_eq (x := 31 / 2) 31 1) (by linarith) (by linarith)
  refine ⟨u, v, z, hu, hv, hz, ?_, hz0, hz1⟩
  simp only [encodeAc, scale, fneg, hl, fclamp_eq x (neg_le_self hpos.le), lit_15, lit_half, fmul, fadd, fdiv, hu, hv,
    hz, Option.bind_eq_bind, Option.bind_some, Option.pure_def, ffloor]

/-- The code of a luma difference exists and is the one R192 and R193 describe. -/
theorem encodeAc_isAcCode (m : PNum) (x : Rat) : ∃ k, encodeAc m x = some k ∧ IsAcCode m x k := by
  obtain ⟨l, hl⟩ : ∃ l, lit m (3 / 10) = l := ⟨_, rfl⟩
  have hpos : 0 < l := hl ▸ lit_limit_pos m
  obtain ⟨u, v, z, hu, hv, hz, hencode, hz0, hz1⟩ := encodeAc_steps m x hl
  obtain ⟨k, hk⟩ : ∃ k, ⌊z⌋ = k := ⟨_, rfl⟩
  obtain ⟨hkz, hzk⟩ := Int.floor_eq_iff.mp hk
  have hkmax : k < 16 := Int.cast_lt (R := Rat) |>.mp (by push_cast; linarith)
  have hkmin : -16 < k := Int.cast_lt (R := Rat) |>.mp (by push_cast; linarith)
  unfold IsAcCode
  rw [hl]
  refine ⟨k, hk ▸ hencode, ⟨by omega, by omega⟩, fun hx => ?_, fun hx => ?_, ⟨u, v, z, hu, hv, hz, hk.symm⟩,
    fun hm hk14 hk14' => ?_⟩
  · rw [min_eq_right hx, max_eq_right (by linarith), div_self hpos.ne'] at hu
    obtain rfl := eq_of_roundTo_onGrid hu (onGrid_of_eq 1 0)
    obtain rfl := eq_of_roundTo_onGrid hv (onGrid_of_eq 15 0)
    obtain rfl := eq_of_roundTo_onGrid hz (onGrid_of_eq 31 1)
    have hgt : 14 < k := Int.cast_lt (R := Rat) |>.mp (by push_cast; linarith)
    omega
  · rw [max_eq_left ((min_le_left x l).trans hx), neg_div, div_self hpos.ne'] at hu
    obtain rfl := eq_of_roundTo_onGrid hu (onGrid_of_eq (-1) 0)
    obtain rfl := eq_of_roundTo_onGrid hv (onGrid_of_eq (-15) 0)
    obtain rfl := eq_of_roundTo_onGrid hz (onGrid_of_eq (-29) 1)
    have hlt : k < -14 := Int.cast_lt (R := Rat) |>.mp (by push_cast; linarith)
    omega
  · subst hm
    obtain rfl : 3 / 10 = l := hl
    obtain ⟨c, hc⟩ : ∃ c, max (-(3 / 10)) (min x (3 / 10)) = c := ⟨_, rfl⟩
    rw [hc] at hu
    obtain rfl := Option.some.inj hu
    obtain rfl := Option.some.inj hv
    obtain rfl := Option.some.inj hz
    have hklo : (-14 : Rat) ≤ k := by exact_mod_cast hk14
    have hkhi : (k : Rat) ≤ 14 := by exact_mod_cast hk14'
    have hscale : c / (3 / 10) * 15 = 50 * c := by ring
    rw [hscale] at hkz hzk
    obtain rfl : x = c := eq_of_clamp hc (by linarith) (by linarith)
    constructor <;> linarith

/-! ### QDC and QAC -/

theorem execQdc_eq {s : State} {n : Number} {x : Rat} (hn : s.coef.a = some n) (hx : numberValue n = some x) :
    execQdc s = command s (computed (encodeDc s.config.pnum x) >>= fun k => pure (s.setQA (sext64 k))) := by
  rw [execQdc, hn, source_some, Checked.ok_bind, finite_of_value hx, Checked.ok_bind]

theorem execQac_eq {s : State} {n k l : Number} {x y z : Rat} {b c d : Int} (hs : Running s)
    (hn : s.coef.b = some n) (hk : s.coef.c = some k) (hl : s.coef.d = some l) (hx : numberValue n = some x)
    (hy : numberValue k = some y) (hz : numberValue l = some z) (hb : encodeAc s.config.pnum x = some b)
    (hc : encodeAc s.config.pnum y = some c) (hd : encodeAc s.config.pnum z = some d) :
    execQac s = .next (s.setQDifferences (sext64 b) (sext64 c) (sext64 d)) := by
  simp only [execQac, hn, hk, hl, source_some, Checked.ok_bind, finite_of_value hx, finite_of_value hy,
    finite_of_value hz, hb, hc, hd, computed_some]
  exact command_ok hs _

end Sys2Proof.Machine

namespace Sys2Proof.Proofs

open Machine

/-- Settles O33: the scaled and rounded average lies between 1/2 and 511 1/2. -/
theorem qdcQuantisesTheAverage : Obligations.QdcQuantisesTheAverage := by
  unfold Obligations.QdcQuantisesTheAverage
  intro s n x hs hn hx
  obtain ⟨k, hencode, hk⟩ := encodeDc_isDcCode s.config.pnum x
  refine ⟨k, hk, (execQdc_eq hn hx).trans (command_computed_some hs hencode) |>.trans ?_⟩
  rw [sext64, BitVec.ofInt_natCast]
  rfl

/-- Settles O34: the scaled and rounded differences lie between -14 1/2 and 15 1/2. -/
theorem qacQuantisesTheDifferences : Obligations.QacQuantisesTheDifferences := by
  unfold Obligations.QacQuantisesTheDifferences
  intro s n k l x y z hs hn hk hl hx hy hz
  obtain ⟨b, hencode_b, hb⟩ := encodeAc_isAcCode s.config.pnum x
  obtain ⟨c, hencode_c, hc⟩ := encodeAc_isAcCode s.config.pnum y
  obtain ⟨d, hencode_d, hd⟩ := encodeAc_isAcCode s.config.pnum z
  exact ⟨b, c, d, hb, hc, hd, execQac_eq hs hn hk hl hx hy hz hencode_b hencode_c hencode_d⟩

end Sys2Proof.Proofs
end

section
/-! PROOFS of the family 40_numerics.md, eighth part: the first fault of a composite (R244). What follows a constituent
that halts the core is dropped; the conversions of ENCBLK that are in contract write their pixel of `YPP` and nothing
else. -/

namespace Sys2Proof.Machine

/-! ### Sequences that halt -/

/-- A sequence stops at the first command that halts the core (R244). -/
theorem runCommands_stops {cs : List Instr} (hc : ∀ c ∈ cs, ¬ Composite c) {k : Nat} {c : Instr} {s t u : State}
    (hk : cs[k]? = some c) (ht : runCommands (cs.take k) s = .next t) (hu : exec c t = .next u)
    (hhalt : u.halted = true) : runCommands cs s = .next u := by
  obtain ⟨hlt, hget⟩ := List.getElem?_eq_some_iff.mp hk
  have hsplit : cs = cs.take k ++ c :: cs.drop (k + 1) := by
    rw [← hget, ← List.drop_eq_getElem_cons hlt, List.take_append_drop]
  rw [hsplit, runCommands_append, ht, andThen_next, runCommands_cons, hu, andThen_next]
  exact runCommands_of_halted (fun d hd => hc d (List.mem_of_mem_drop hd)) hhalt

/-- The same for a composite: a command that has constituents runs them in sequence. -/
theorem exec_stops {i c : Instr} {k : Nat} {s t u : State} (hk : (constituents i)[k]? = some c)
    (ht : runCommands ((constituents i).take k) s = .next t) (hu : exec c t = .next u) (hhalt : u.halted = true) :
    exec i s = .next u := by
  have hi : Composite i := by
    cases i
    case encblk | decblk => trivial
    all_goals cases hk
  rw [exec_composite hi]
  exact runCommands_stops (fun _ hc => not_composite_of_mem_constituents hc) hk ht hu hhalt

/-! ### The conversions of ENCBLK -/

/-- The three `RGB` registers of a pixel hold numbers of the contract range (R151). -/
def PixelInContract (s : State) (p : Pixel) : Prop :=
  ∀ k, ∃ n x, s.number (.rgb p k) = some n ∧ numberValue n = some x ∧ 0 ≤ x ∧ x ≤ 1

theorem exec_cscf_of_inContract {s : State} (hs : Running s) {idx : Byte} {p : Pixel} (hp : idx.toNat = p.index)
    (h : PixelInContract s p) : ∃ z : Ypp Number, exec (.cscf idx) s = .next (s.setYpp p z) := by
  obtain ⟨r, x, hr, hx, hx0, hx1⟩ := h .r
  obtain ⟨g, y, hg, hy, hy0, hy1⟩ := h .g
  obtain ⟨b, z, hb, hz, hz0, hz1⟩ := h .b
  have hget : s.rgb.get p = Rgb.map some ⟨r, g, b⟩ := (Rgb.mk.injEq ..).mpr ⟨hr, hg, hb⟩
  have hvalue : Rgb.map numberValue ⟨r, g, b⟩ = Rgb.map some ⟨x, y, z⟩ := (Rgb.mk.injEq ..).mpr ⟨hx, hy, hz⟩
  obtain ⟨w, hw, -⟩ := rgbToYpp_of_unit s.config.pnum (x := ⟨x, y, z⟩) (abs_le.mpr ⟨by linarith, hx1⟩)
    (abs_le.mpr ⟨by linarith, hy1⟩) (abs_le.mpr ⟨by linarith, hz1⟩)
  exact ⟨_, (execCscf_eq hp hget hvalue).trans (command_computed_some hs hw)⟩

/-- What the conversions of the first `n` pixels leave: `YPP` written for these pixels, and all else as it was. -/
structure Converted (s : State) (n : Nat) (t : State) : Prop where
  onlyYpp : t = { s with ypp := t.ypp }
  written : ∀ p : Pixel, p.index < n → ∀ x ∈ yppRegs p, ¬ Unwritten t x
  kept : ∀ p : Pixel, n ≤ p.index → ∀ x ∈ yppRegs p, Agree s t x

theorem Converted.running {s t : State} {n : Nat} (h : Converted s n t) (hs : Running s) : Running t := by
  rw [h.onlyYpp]
  exact hs

theorem Converted.number_rgb {s t : State} {n : Nat} (h : Converted s n t) (p : Pixel) (k : RgbPart) :
    t.number (.rgb p k) = s.number (.rgb p k) := by
  rw [h.onlyYpp]
  rfl

theorem exists_pixel_of_index {n : Nat} (h : n < 4) : ∃ p : Pixel, p.index = n := by
  interval_cases n
  exacts [⟨.topLeft, rfl⟩, ⟨.topRight, rfl⟩, ⟨.bottomLeft, rfl⟩, ⟨.bottomRight, rfl⟩]

theorem pixel_eq_of_index_eq {p p' : Pixel} (h : p.index = p'.index) : p = p' := by
  cases p <;> cases p' <;> first | rfl | cases h

theorem encblkCommands_getElem? (p : Pixel) : encblkCommands[p.index]? = some (.cscf (BitVec.ofNat 8 p.index)) := by
  cases p <;> rfl

theorem unwritten_of_agree {s t : State} {x : Reg} (h : Agree s t x) (ht : Unwritten t x) : Unwritten s x := by
  cases x <;> exact Eq.trans h ht

theorem not_mem_yppRegs {p p' : Pixel} (h : p' ≠ p) {x : Reg} (hx : x ∈ yppRegs p') : x ∉ yppRegs p := by
  simp only [yppRegs, List.mem_cons, List.not_mem_nil, or_false] at hx ⊢
  rcases hx with rfl | rfl | rfl <;> simp [h]

theorem not_unwritten_setYpp (s : State) (p : Pixel) (z : Ypp Number) {x : Reg} (hx : x ∈ yppRegs p) :
    ¬ Unwritten (s.setYpp p z) x := by
  simp only [yppRegs, List.mem_cons, List.not_mem_nil, or_false] at hx
  rcases hx with rfl | rfl | rfl <;> simp [Unwritten, State.number, State.setYpp, yppPart, Ypp.map]

/-- One more conversion writes one more pixel. -/
theorem Converted.setYpp {s t : State} {p : Pixel} (h : Converted s p.index t) (z : Ypp Number) :
    Converted s (p.index + 1) (t.setYpp p z) where
  onlyYpp := by
    conv_lhs => rw [h.onlyYpp]
    rfl
  written p' hp' x hx := by
    by_cases hpp : p' = p
    · subst hpp
      exact not_unwritten_setYpp t p' z hx
    · have hlt : p'.index < p.index := lt_of_le_of_ne (Nat.lt_succ_iff.mp hp') (mt pixel_eq_of_index_eq hpp)
      exact fun hu => h.written p' hlt x hx
        (unwritten_of_agree ((Updates.setYpp p z).frame t x (not_mem_yppRegs hpp hx)) hu)
  kept p' hp' x hx := by
    have hpp : p' ≠ p := fun he => absurd (he ▸ hp') (Nat.not_succ_le_self _)
    exact agree_trans (h.kept p' (Nat.le_of_succ_le hp') x hx)
      ((Updates.setYpp p z).frame t x (not_mem_yppRegs hpp hx))

/-- The conversions of the first pixels, all in contract, complete (R151, R241). -/
theorem runCommands_conversions {s : State} (hs : Running s) {n : Nat} (hn : n ≤ 4)
    (h : ∀ p : Pixel, p.index < n → PixelInContract s p) :
    ∃ t, runCommands (encblkCommands.take n) s = .next t ∧ Converted s n t := by
  induction n with
  | zero => exact ⟨s, rfl, rfl, fun _ hp => absurd hp (Nat.not_lt_zero _), fun _ _ x _ => agree_refl s x⟩
  | succ n ih =>
    obtain ⟨t, ht, hconv⟩ := ih (by omega) fun p hp => h p (by omega)
    obtain ⟨p, rfl⟩ := exists_pixel_of_index (n := n) (by omega)
    have hcontract : PixelInContract t p := fun k => by
      rw [hconv.number_rgb]
      exact h p (by omega) k
    obtain ⟨z, hz⟩ := exec_cscf_of_inContract (hconv.running hs) (idx := BitVec.ofNat 8 p.index) (by cases p <;> rfl)
      hcontract
    refine ⟨t.setYpp p z, ?_, hconv.setYpp z⟩
    rw [List.take_add_one, encblkCommands_getElem?, runCommands_append, ht, andThen_next, Option.toList_some,
      runCommands_cons, hz]
    rfl

/-- ENCBLK stops at the first conversion that raises a fault (R244). -/
theorem exec_encblk_stops {s t : State} {p : Pixel} {e : Raise}
    (ht : runCommands (encblkCommands.take p.index) s = .next t)
    (he : exec (.cscf (BitVec.ofNat 8 p.index)) t = .next (t.raise e)) : exec .encblk s = .next (t.raise e) :=
  exec_stops (i := .encblk) (encblkCommands_getElem? p) ht he (t.raise_halted e)

theorem reads_cscf (p : Pixel) : reads (.cscf (BitVec.ofNat 8 p.index)) = rgbRegs p := by
  cases p <;> rfl

theorem forall_mem_rgbRegs {P : Reg → Prop} {p : Pixel} (h : ∀ k, P (.num (.rgb p k))) : ∀ x ∈ rgbRegs p, P x := by
  simp only [rgbRegs, List.forall_mem_cons]
  exact ⟨h .r, h .g, h .b, fun _ hx => absurd hx List.not_mem_nil⟩

theorem mem_rgbRegs (p : Pixel) (k : RgbPart) : .num (.rgb p k) ∈ rgbRegs p := by
  cases k <;> simp [rgbRegs]

end Sys2Proof.Machine

namespace Sys2Proof.Proofs

open Machine

/-- Settles O56: a composite is the sequence of its constituents, and a halted core drops the rest of it. The
conversions before pixel `p` complete, and the one of `p` raises the fault of its sources. -/
theorem compositeStopsAtTheFirstFault : Obligations.CompositeStopsAtTheFirstFault := by
  unfold Obligations.CompositeStopsAtTheFirstFault
  intro s hs
  refine ⟨fun i k c t u hk ht hrun hu hhalt => ⟨exec_stops hk ht hu hhalt, ?_⟩, fun hcw => ?_, fun p hp => ?_⟩
  · exact faultingCommandWritesOnlyFault c t u
      (not_composite_of_mem_constituents (List.mem_of_getElem? hk)) hrun hu hhalt
  · have hunpack : exec .unpack s = .next (s.raise unwrittenRaise) :=
      exec_unwritten_single rfl id hs ⟨.cw, by simp [reads], hcw⟩
    exact exec_stops (i := .decblk) (k := 0) rfl rfl hunpack (s.raise_halted unwrittenRaise)
  · obtain ⟨t, ht, hconv⟩ := runCommands_conversions hs (n := p.index) (by cases p <;> decide) hp
    have hrun := hconv.running hs
    refine ⟨t, ht, hrun, hconv.onlyYpp, hconv.written, hconv.kept, fun k hk => ?_, fun hw k n hn hnone => ?_⟩
    · refine exec_encblk_stops ht (exec_unwritten_single (by cases p <;> rfl) id hrun ?_)
      rw [reads_cscf]
      exact ⟨_, mem_rgbRegs p k, (hconv.number_rgb p k).trans hk⟩
    · refine exec_encblk_stops ht (exec_nonfinite_single id hrun ?_ ?_)
      · rw [reads_cscf]
        exact forall_mem_rgbRegs fun k hu => hw k ((hconv.number_rgb p k).symm.trans hu)
      · rw [reads_cscf]
        exact ⟨_, mem_rgbRegs p k, n, (hconv.number_rgb p k).trans hn, hnone⟩

end Sys2Proof.Proofs
end

section
/-! PROOFS of the family 41_bitfield.md: the faults of the bit-field commands in their order (R130, R139, R270), and
gets after sets (R137). -/

namespace Sys2Proof.Machine

/-! ### Faults of the bit-field commands -/

section faults
variable {s : State} {width lsb : Byte} {v w : Word64}

/-- The gets read `W` alone, so a bad span raises PRECONDITION whether `V` is written or not (R133, R134). -/
theorem exec_get_badSpan (hs : Running s) (hw : s.w = some w) (hbad : spanOk width lsb = false) {i : Instr}
    (hi : i = .getu width lsb ∨ i = .gets width lsb) : exec i s = .next (s.raise ⟨.precondition, 0⟩) := by
  rcases hi with rfl | rfl
  · simp [exec, execGetu, command, hs, hw, hbad]
  · simp [exec, execGets, command, hs, hw, hbad]

theorem execSetu_misfit (hs : Running s) (hw : s.w = some w) (hv : s.v = some v) (hspan : spanOk width lsb = true)
    (hmisfit : fitsUnsigned (u64 v) width.toNat = false) :
    execSetu width lsb s = .next (s.raise ⟨.outOfRange, 0⟩) := by
  simp [execSetu, command, hs, hw, hv, hspan, hmisfit]

theorem execSets_misfit (hs : Running s) (hw : s.w = some w) (hv : s.v = some v) (hspan : spanOk width lsb = true)
    (hmisfit : fitsSigned (i64 v) width.toNat = false) :
    execSets width lsb s = .next (s.raise ⟨.outOfRange, 0⟩) := by
  simp [execSets, command, hs, hw, hv, hspan, hmisfit]

end faults

/-! ### Gets after sets -/

/-- The signed field of a word depends on its unsigned field only (R134). -/
theorem getSigned_congr {word word' : Word64} {width lsb : Nat}
    (h : getUnsigned word width lsb = getUnsigned word' width lsb) :
    getSigned word width lsb = getSigned word' width lsb := by
  simp only [getSigned, h]

theorem getUnsigned_setUnsigned_same (word : Word64) {width lsb value : Nat} (h64 : lsb + width ≤ 64)
    (hv : value < 2 ^ width) : getUnsigned (setUnsigned word width lsb value) width lsb = value := by
  refine Nat.eq_of_testBit_eq fun i => ?_
  rw [getUnsigned_testBit]
  by_cases hi : i < width
  · rw [setUnsigned_getLsbD word lsb (by omega) hv, if_pos (by omega), Nat.add_sub_cancel_left, decide_eq_true hi,
      Bool.true_and]
  · rw [decide_eq_false hi, Bool.false_and,
      Nat.testBit_lt_two_pow (hv.trans_le (Nat.pow_le_pow_right (by decide) (Nat.le_of_not_lt hi)))]

/-- The pattern a signed set writes, read as two's complement of its width, is the value (R136). -/
theorem toInt_ofNat_emod_two_pow {value : Int} {width : Nat} (h1 : 1 ≤ width) (hfit : fitsSigned value width = true) :
    (BitVec.ofNat width (value % 2 ^ width).toNat).toInt = value := by
  have hnonneg : 0 ≤ value % 2 ^ width := Int.emod_nonneg value (by positivity)
  have hcast : (2 : Int) ^ width = ((2 ^ width : Nat) : Int) := by push_cast; rfl
  rw [BitVec.toInt_ofNat', Int.toNat_of_nonneg hnonneg, hcast, Int.emod_bmod]
  exact (bmod_two_pow_eq_self_iff value h1).mpr (fitsSigned_eq_true.mp hfit)

theorem getSigned_setSigned_same (word : Word64) {width lsb : Nat} {value : Int} (h1 : 1 ≤ width)
    (h64 : lsb + width ≤ 64) (hfit : fitsSigned value width = true) :
    getSigned (setSigned word width lsb value) width lsb = value := by
  rw [getSigned_eq_toInt _ lsb h1, setSigned, getUnsigned_setUnsigned_same word h64 (emod_toNat_lt value width),
    toInt_ofNat_emod_two_pow h1 hfit]

/-- A set leaves the bits of a disjoint span, so a get of either kind there returns what it returned before (R137). -/
theorem get_setUnsigned_disjoint (word : Word64) {width lsb value width' lsb' : Nat} (hv : value < 2 ^ width)
    (h64 : lsb' + width' ≤ 64) (hdisjoint : lsb' + width' ≤ lsb ∨ lsb + width ≤ lsb') :
    getUnsigned (setUnsigned word width lsb value) width' lsb' = getUnsigned word width' lsb' ∧
      getSigned (setUnsigned word width lsb value) width' lsb' = getSigned word width' lsb' := by
  have hfield : getUnsigned (setUnsigned word width lsb value) width' lsb' = getUnsigned word width' lsb' :=
    getUnsigned_congr fun i hi => by rw [setUnsigned_getLsbD word lsb (by omega) hv, if_neg (by omega)]
  exact ⟨hfield, getSigned_congr hfield⟩

end Sys2Proof.Machine

namespace Sys2Proof.Proofs

open Machine

/-- Settles O16: a command reads its sources, then tests its operand fields, then (a set) whether `V` fits, and stops at
the first that fails. -/
theorem bitFieldFaultsInOrder : Obligations.BitFieldFaultsInOrder := by
  unfold Obligations.BitFieldFaultsInOrder
  intro s width lsb hs
  have hbad (h : ¬ (1 ≤ width.toNat ∧ lsb.toNat + width.toNat ≤ 64)) : spanOk width lsb = false :=
    decide_eq_false fun ⟨h1, _, h64⟩ => h ⟨h1, h64⟩
  refine ⟨fun i hi => ?fits, fun i hi => ?gets, fun i hi => ?sets, fun w v hw hv h1 h64 => ?misfits⟩
  case fits =>
    refine ⟨fun hv => ?_, fun v hv hwidth => exec_fits_badWidth hs hv (decide_eq_false hwidth) hi⟩
    rcases hi with rfl | rfl <;> exact exec_unwritten_single rfl id hs ⟨.v, by simp [reads], hv⟩
  case gets =>
    refine ⟨fun hw => ?_, fun w hw hspan => exec_get_badSpan hs hw (hbad hspan) hi⟩
    rcases hi with rfl | rfl <;> exact exec_unwritten_single rfl id hs ⟨.w, by simp [reads], hw⟩
  case sets =>
    refine ⟨fun hwv => ?_, fun w v hw hv hspan => exec_getSet_badSpan hs hv hw (hbad hspan) (.inr (.inr hi))⟩
    rcases hi with rfl | rfl <;> exact exec_unwritten_single rfl id hs (by simpa [reads, Unwritten] using hwv)
  case misfits =>
    have hspan := spanOk_of_le h1 h64
    refine ⟨fun hmisfit => execSetu_misfit hs hw hv hspan ?_, fun hmisfit => execSets_misfit hs hw hv hspan ?_⟩
    · rw [u64, fitsUnsigned_natCast]
      exact decide_eq_false (Nat.not_lt.mpr hmisfit)
    · rw [← Bool.not_eq_true, fitsSigned_eq_true, i64]
      omega

/-- Settles O17: a set writes a pattern that fits its span, and a signed set the one that reads back as its value. -/
theorem getAfterSetRoundTrips : Obligations.GetAfterSetRoundTrips := by
  unfold Obligations.GetAfterSetRoundTrips
  intro word width lsb h1 h64
  have hlt {value : Nat} (hfit : fitsUnsigned value width = true) : value < 2 ^ width := by
    rwa [fitsUnsigned_natCast, decide_eq_true_iff] at hfit
  refine ⟨fun value hfit => getUnsigned_setUnsigned_same word h64 (hlt hfit),
    fun value hfit => getSigned_setSigned_same word h1 h64 hfit, fun width' lsb' _ h64' hdisjoint => ⟨?_, ?_⟩⟩
  · exact fun value hfit => get_setUnsigned_disjoint word (hlt hfit) h64' hdisjoint
  · exact fun value _ => get_setUnsigned_disjoint word (emod_toNat_lt value width) h64' hdisjoint

end Sys2Proof.Proofs
end

section
/-! PROOFS of the family 42_colorspace.md: CSCF computes the rounded forward matrix (R151), and under EXACT CSCI after
CSCF is the product of the two printed matrices (R157). -/

namespace Sys2Proof.Machine

section rationals
variable {s : State} {idx : Byte} {p : Pixel}

/-- CSCF on a pixel of rationals stores the rationals of the forward mapping (R104, R151). -/
theorem exec_cscf_exact (hs : Running s) (hm : s.config.pnum = .exact) (hp : idx.toNat = p.index) {x : Rgb Rat}
    {z : Ypp Rat} (hx : s.rgb.get p = (x.map .rational).map some) (hz : rgbToYpp .exact x = some z) :
    exec (.cscf idx) s = .next (s.setYpp p (z.map .rational)) := by
  have heq := execCscf_eq (x := x) hp hx rfl
  rw [hm] at heq
  exact heq.trans (command_computed_some hs hz)

/-- CSCI on a sample of rationals stores the rationals of the inverse mapping (R104, R152). -/
theorem exec_csci_exact (hs : Running s) (hm : s.config.pnum = .exact) (hp : idx.toNat = p.index) {z : Ypp Rat}
    {x : Rgb Rat} (hz : s.ypp.get p = (z.map .rational).map some) (hx : yppToRgb .exact z = some x) :
    exec (.csci idx) s = .next (s.setRgb p (x.map .rational)) := by
  have heq := execCsci_eq (x := z) hp hz rfl
  rw [hm] at heq
  exact heq.trans (command_computed_some hs hx)

end rationals

/-- The inverse matrix times the forward matrix over the rationals, as R157 prints it. -/
theorem yppToRgb_rgbToYpp_exact (r g b : Rat) :
    ∃ z, rgbToYpp .exact ⟨r, g, b⟩ = some z ∧ yppToRgb .exact z =
      some ⟨r - 576 / 10 ^ 9 * g + 576 / 10 ^ 9 * b,
        132096 / 10 ^ 12 * r + 1000000041472 / 10 ^ 12 * g - 173568 / 10 ^ 12 * b,
        -(192 / 10 ^ 9) * r + 192 / 10 ^ 9 * g + b⟩ := by
  refine ⟨_, rfl, congrArg some ?_⟩
  simp only [lit_exact, fneg, Rgb.mk.injEq]
  refine ⟨?_, ?_, ?_⟩ <;> ring

end Sys2Proof.Machine

namespace Sys2Proof.Proofs

open Machine

/-- Settles O23: the forward mapping is the three rounded sums, one after another. -/
theorem cscfAppliesTheForwardMatrix : Obligations.CscfAppliesTheForwardMatrix := by
  unfold Obligations.CscfAppliesTheForwardMatrix
  intro s idx hs
  refine ⟨fun p n x hp hn hx y pb pr hy hpb hpr => ?_, fun h => ?_⟩
  · have hz : rgbToYpp s.config.pnum x = some ⟨y, pb, pr⟩ := by
      rw [rgbToYpp_eq, hy, hpb, hpr]
      rfl
    exact (execCscf_eq hp hn hx).trans (command_computed_some hs hz)
  · show execCscf idx s = _
    rw [execCscf, pixel_of_gt h]
    exact command_error hs ⟨.illegalCmd, 0⟩

/-- Settles O26: CSCI reads the sample CSCF wrote, and the two exact mappings compose to the product matrix. -/
theorem colourRoundTripIsTheProductMatrix : Obligations.ColourRoundTripIsTheProductMatrix := by
  unfold Obligations.ColourRoundTripIsTheProductMatrix
  intro s idx p r g b hs hm hp hrgb
  obtain ⟨z, hz, hx⟩ := yppToRgb_rgbToYpp_exact r g b
  have hcscf := exec_cscf_exact (x := ⟨r, g, b⟩) hs hm hp hrgb hz
  have hcsci := exec_csci_exact (s := s.setYpp p (z.map .rational)) hs hm hp (by simp) hx
  exact ⟨_, _, hcscf, hcsci, by simp [Rgb.map]⟩

end Sys2Proof.Proofs
end

section
/-! PROOFS of the family 43_blocktransform.md: under EXACT BTI computes the four lumas BTF read and so writes back what
stands in `YPP` (R171, R172, R175). -/

namespace Sys2Proof.Machine

section rationals
variable {s : State}

/-- BTF on four rational lumas stores the rationals of the forward transform (R104, R171). -/
theorem exec_btf_exact (hs : Running s) (hm : s.config.pnum = .exact) {y : Quad Rat} {x : Luma Rat}
    (hy : (s.ypp.map fun z => z.y) = (y.map .rational).map some) (hx : lumaForward .exact y = some x) :
    exec .btf s = .next (s.setCoefLuma (x.map .rational)) := by
  have heq := execBtf_eq (y := y) hy rfl
  rw [hm] at heq
  exact heq.trans (command_computed_some hs hx)

/-- BTI on rational coefficients stores the rationals of the inverse transform (R104, R172). -/
theorem exec_bti_exact (hs : Running s) (hm : s.config.pnum = .exact) {x : Luma Rat} {y : Quad Rat}
    (ha : s.coef.a = some (.rational x.a)) (hb : s.coef.b = some (.rational x.b))
    (hc : s.coef.c = some (.rational x.c)) (hd : s.coef.d = some (.rational x.d))
    (hy : lumaInverse .exact x = some y) :
    exec .bti s = .next (s.setSamplesY (y.map .rational)) := by
  have heq := execBti_eq (n := x.map .rational) (x := x) ⟨ha, hb, hc, hd⟩ rfl
  rw [hm] at heq
  exact heq.trans (command_computed_some hs hy)

/-- Writing to the four luma registers what they hold changes nothing. -/
theorem setSamplesY_eq_self {y : Quad Number} (h : (s.ypp.map fun z => z.y) = y.map some) :
    s.setSamplesY y = s := by
  obtain ⟨h1, h2, h3, h4⟩ := Quad.mk.inj h
  rw [State.setSamplesY, ← h1, ← h2, ← h3, ← h4]

end rationals

/-- Each sample is the sum of the four quartered sums with the signs of its row of R172. -/
theorem lumaInverse_lumaForward_exact (y : Quad Rat) :
    ∃ x, lumaForward .exact y = some x ∧ lumaInverse .exact x = some y := by
  refine ⟨_, rfl, congrArg some ((Quad.mk.injEq ..).mpr ⟨?_, ?_, ?_, ?_⟩)⟩ <;> rw [lit_exact] <;> ring

end Sys2Proof.Machine

namespace Sys2Proof.Proofs

open Machine

/-- Settles O29: BTI reads the coefficients BTF wrote, computes the four lumas again, and their registers still hold
them. -/
theorem btiUndoesBtfExactly : Obligations.BtiUndoesBtfExactly := by
  unfold Obligations.BtiUndoesBtfExactly
  intro s y hs hm hy
  obtain ⟨x, hx, hinverse⟩ := lumaInverse_lumaForward_exact y
  have hbtf := exec_btf_exact hs hm hy hx
  have hbti := exec_bti_exact (s := s.setCoefLuma (x.map .rational)) hs hm rfl rfl rfl rfl hinverse
  rw [setSamplesY_eq_self hy] at hbti
  exact ⟨_, _, hbtf, hbti, rfl⟩

end Sys2Proof.Proofs
end

section
/-! PROOFS of the family 44_quantizer.md, first part: the dequantisers (R194, R195, R199 to R201, R203) and the error of
the luma quantisers (R207). A code that fits its field is small, so converting it to a number rounds nothing and nothing
that follows overflows. -/

namespace Sys2Proof.Machine

/-! ### Codes that fit their fields -/

theorem fitsUnsigned_u64 (x : Word64) (width : Nat) : fitsUnsigned (u64 x) width = decide (x.toNat < 2 ^ width) :=
  fitsUnsigned_natCast x.toNat width

theorem fitsSigned_i64_five (x : Word64) : fitsSigned (i64 x) 5 = decide (-16 ≤ x.toInt ∧ x.toInt ≤ 15) := by
  rw [Bool.eq_iff_iff, fitsSigned_eq_true, decide_eq_true_iff, i64]
  omega

/-- A fits test raises its fault if its code does not fit, or if a later test raises that fault (R261). -/
theorem inRange_bind_misfit {β : Type} {fits : Bool} {info : BitVec 4} {f : Unit → Checked β}
    (h : fits = false ∨ f () = .error ⟨.outOfRange, info⟩) :
    (inRange fits info >>= f) = .error ⟨.outOfRange, info⟩ := by
  cases fits with
  | false => rfl
  | true => exact h.resolve_left Bool.noConfusion

/-! ### The values of codes -/

theorem fofint_of_small (m : PNum) {n : Int} (h : |n| < 2 ^ 24) : fofint m n = some (n : Rat) :=
  roundTo_of_onGrid m (by simpa using onGrid_div 0 h)

/-- The value of a code of the luma average is one rounded quotient (R195). -/
theorem decodeDc_eq (m : PNum) {q : Nat} (h : q ≤ 511) : decodeDc m q = roundTo m ((q : Rat) / 511) := by
  rw [decodeDc, fofint_of_small m (by rw [Nat.abs_cast]; omega), lit_511, Int.cast_natCast]
  rfl

theorem exists_decodeDc (m : PNum) {q : Nat} (h : q ≤ 511) :
    ∃ x, roundTo m ((q : Rat) / 511) = some x ∧ decodeDc m q = some x := by
  have hq : (q : Rat) ≤ 511 := by exact_mod_cast h
  obtain ⟨x, hx, -⟩ := roundTo_between m (x := (q : Rat) / 511) onGrid_zero (onGrid_of_eq (x := 1) 1 0) (by positivity)
    ((div_le_one (by norm_num)).mpr hq)
  exact ⟨x, hx, (decodeDc_eq m h).trans hx⟩

/-- The value of a code of a luma difference is a rounded quotient, then a rounded product (R194). -/
theorem decodeAc_eq (m : PNum) {k : Int} (h : |k| ≤ 16) :
    decodeAc m k = (roundTo m ((k : Rat) / 15)).bind fun u => roundTo m (u * lit m (3 / 10)) := by
  rw [decodeAc, fofint_of_small m (by omega), lit_15]
  rfl

theorem exists_decodeAc (m : PNum) {k : Int} (hlo : -16 ≤ k) (hhi : k ≤ 15) :
    ∃ x, IsAcValue m k x ∧ decodeAc m k = some x := by
  have hk : |k| ≤ 16 := abs_le.mpr ⟨hlo, by omega⟩
  have hk' : |(k : Rat)| ≤ 16 := by exact_mod_cast hk
  have hquotient : |(k : Rat) / 15| ≤ 2 := by
    rw [abs_div, abs_of_pos (by norm_num : (0 : Rat) < 15)]
    linarith
  obtain ⟨u, hu, hule⟩ := roundTo_abs_le m (onGrid_of_eq 2 0) hquotient
  have hlimit : |lit m (3 / 10)| ≤ 1 / 2 := abs_lit_le m (onGrid_of_eq 1 1) (by norm_num)
  have hproduct : |u * lit m (3 / 10)| ≤ 2 * (1 / 2) := by
    rw [abs_mul]
    gcongr
  obtain ⟨x, hx, -⟩ := roundTo_abs_le m (onGrid_of_eq 1 0) hproduct
  refine ⟨x, ⟨u, hu, hx⟩, ?_⟩
  rw [decodeAc_eq m hk, hu, Option.bind_some, hx]

theorem decodeAc_exact (q : Int) : decodeAc .exact q = some ((q : Rat) * (2 / 100)) := by
  refine congrArg some ?_
  simp only [lit_exact]
  ring

/-- Two computations that answer the same value have a value in common. -/
theorem exists_common_value {α : Type} {o p : Option α} (h : o = p ∧ o ≠ none) : ∃ y, o = some y ∧ p = some y := by
  obtain ⟨rfl, hsome⟩ := h
  exact (Option.ne_none_iff_exists'.mp hsome).imp fun _ hy => ⟨hy, hy⟩

theorem valueOf_eq_getElem (c : Config) {j : Nat} (h : j < 16) : valueOf c j = c.chroma[j] :=
  valueOf_of_getElem? (by simp [h])

/-! ### DQDC, DQAC and DQCH -/

section dequantisers
variable {s : State}

theorem execDqdc_eq (hs : Running s) {q : Word64} (hq : s.q.a = some q) (hfit : q.toNat ≤ 511) {x : Rat}
    (hx : decodeDc s.config.pnum q.toNat = some x) :
    execDqdc s = .next (s.setCoefA (numberOf s.config.pnum x)) := by
  have hrange : fitsUnsigned (u64 q) 9 = true := (fitsUnsigned_u64 q 9).trans (decide_eq_true (Nat.lt_succ_of_le hfit))
  rw [execDqdc, hq, source_some, Checked.ok_bind, hrange, inRange_true, Checked.ok_bind]
  exact command_computed_some hs hx

theorem execDqac_eq (hs : Running s) {b c d : Word64} (hb : s.q.b = some b) (hc : s.q.c = some c)
    (hd : s.q.d = some d) (hfit_b : -16 ≤ b.toInt ∧ b.toInt ≤ 15) (hfit_c : -16 ≤ c.toInt ∧ c.toInt ≤ 15)
    (hfit_d : -16 ≤ d.toInt ∧ d.toInt ≤ 15) {x y z : Rat} (hx : decodeAc s.config.pnum (i64 b) = some x)
    (hy : decodeAc s.config.pnum (i64 c) = some y) (hz : decodeAc s.config.pnum (i64 d) = some z) :
    execDqac s = .next (s.setCoefDifferences (numberOf s.config.pnum x) (numberOf s.config.pnum y)
      (numberOf s.config.pnum z)) := by
  simp only [execDqac, hb, hc, hd, source_some, fitsSigned_i64_five, hfit_b, hfit_c, hfit_d, and_self, decide_true,
    inRange_true, hx, hy, hz, computed_some, Checked.ok_bind]
  exact command_ok hs _

theorem execDqch_eq (hs : Running s) {pb pr : Word64} (hpb : s.q.pb = some pb) (hpr : s.q.pr = some pr)
    (hfit_pb : pb.toNat < 16) (hfit_pr : pr.toNat < 16) :
    execDqch s = .next (s.setCoefChroma ⟨valueOf s.config pb.toNat, valueOf s.config pr.toNat⟩) := by
  have hsource : sourceChroma s.q = .ok ⟨pb, pr⟩ := sourceChroma_eq_ok.mpr ⟨hpb, hpr⟩
  have hrange {x : Word64} (h : x.toNat < 16) : fitsUnsigned (u64 x) 4 = true :=
    (fitsUnsigned_u64 x 4).trans (decide_eq_true h)
  simp only [execDqch, hsource, hrange hfit_pb, hrange hfit_pr, inRange_true, Checked.ok_bind]
  exact command_ok hs _

/-- The fault of a dequantiser whose code does not fit (R261). -/
abbrev misfitRaise : Raise := ⟨.outOfRange, 0⟩

theorem execDqdc_misfit (hs : Running s) {q : Word64} (hq : s.q.a = some q) (h : 511 < q.toNat) :
    execDqdc s = .next (s.raise misfitRaise) := by
  rw [execDqdc, hq, source_some, Checked.ok_bind, inRange_bind_misfit (.inl ?misfit)]
  case misfit => exact (fitsUnsigned_u64 q 9).trans (decide_eq_false (Nat.not_lt_of_le h))
  exact command_error hs misfitRaise

theorem execDqac_misfit (hs : Running s) {b c d : Word64} (hb : s.q.b = some b) (hc : s.q.c = some c)
    (hd : s.q.d = some d) (h : ¬ (-16 ≤ b.toInt ∧ b.toInt ≤ 15) ∨ ¬ (-16 ≤ c.toInt ∧ c.toInt ≤ 15) ∨
      ¬ (-16 ≤ d.toInt ∧ d.toInt ≤ 15)) : execDqac s = .next (s.raise misfitRaise) := by
  have hmisfit {x : Word64} (hx : ¬ (-16 ≤ x.toInt ∧ x.toInt ≤ 15)) : fitsSigned (i64 x) 5 = false :=
    (fitsSigned_i64_five x).trans (decide_eq_false hx)
  simp only [execDqac, hb, hc, hd, source_some, Checked.ok_bind]
  rw [inRange_bind_misfit (h.imp hmisfit fun h => inRange_bind_misfit (h.imp hmisfit fun h =>
    inRange_bind_misfit (.inl (hmisfit h))))]
  exact command_error hs misfitRaise

theorem execDqch_misfit (hs : Running s) {pb pr : Word64} (hpb : s.q.pb = some pb) (hpr : s.q.pr = some pr)
    (h : 15 < pb.toNat ∨ 15 < pr.toNat) : execDqch s = .next (s.raise misfitRaise) := by
  have hsource : sourceChroma s.q = .ok ⟨pb, pr⟩ := sourceChroma_eq_ok.mpr ⟨hpb, hpr⟩
  have hmisfit {x : Word64} (hx : 15 < x.toNat) : fitsUnsigned (u64 x) 4 = false :=
    (fitsUnsigned_u64 x 4).trans (decide_eq_false (Nat.not_lt_of_le hx))
  rw [execDqch, hsource, Checked.ok_bind, inRange_bind_misfit (h.imp hmisfit fun h =>
    inRange_bind_misfit (.inl (hmisfit h)))]
  exact command_error hs misfitRaise

end dequantisers

/-! ### The error of the luma quantisers under EXACT (R207) -/

/-- Half a step of the luma average's grid bounds the error. -/
theorem lumaAverage_roundTrip_exact {a : Rat} (h0 : 0 ≤ a) (h1 : a ≤ 1) :
    ∃ k x, encodeDc .exact a = some k ∧ decodeDc .exact k = some x ∧ |x - a| ≤ 1 / 1022 := by
  obtain ⟨k, hk, hmax, -, -, -, hinterval⟩ := encodeDc_isDcCode .exact a
  obtain ⟨hlo, hhi⟩ := hinterval rfl h0 h1
  refine ⟨k, k / 511, hk, decodeDc_eq .exact hmax, abs_le.mpr ⟨?_, ?_⟩⟩ <;> linarith

/-- Within the limit nothing is clamped, and the code is the nearest multiple of 1/50 (R193). -/
theorem encodeAc_exact {x : Rat} (h : |x| ≤ 3 / 10) : encodeAc .exact x = some ⌊50 * x + 1 / 2⌋ := by
  obtain ⟨hlo, hhi⟩ := abs_le.mp h
  obtain ⟨u, v, z, hu, hv, hz, hcode, -⟩ := encodeAc_steps .exact x (lit_exact (3 / 10))
  rw [min_eq_left hhi, max_eq_right hlo] at hu
  obtain rfl := Option.some.inj hu
  obtain rfl := Option.some.inj hv
  obtain rfl := Option.some.inj hz
  rw [hcode, show x / (3 / 10) * 15 = 50 * x by ring]

/-- Half a step of the luma differences' grid bounds the error within the limit. -/
theorem lumaDifference_roundTrip_exact {x : Rat} (h : |x| ≤ 3 / 10) :
    ∃ k z, encodeAc .exact x = some k ∧ decodeAc .exact k = some z ∧ |z - x| ≤ 1 / 100 := by
  refine ⟨_, _, encodeAc_exact h, decodeAc_exact _, abs_le.mpr ?_⟩
  have hlo := Int.floor_le (50 * x + 1 / 2)
  have hhi := Int.lt_floor_add_one (50 * x + 1 / 2)
  constructor <;> linarith

/-- Beyond the limit the code saturates, and the error is the distance to the limit. -/
theorem lumaDifference_roundTrip_saturated {x : Rat} (h : 3 / 10 < |x|) :
    ∃ k z, encodeAc .exact x = some k ∧ decodeAc .exact k = some z ∧ |z - x| = |x| - 3 / 10 := by
  obtain ⟨k, hk, -, hupper, hlower, -⟩ := encodeAc_isAcCode .exact x
  rw [lit_exact] at hupper hlower
  refine ⟨k, _, hk, decodeAc_exact k, ?_⟩
  rcases lt_abs.mp h with hpos | hneg
  · rw [hupper hpos.le, abs_of_pos (show 0 < x by linarith), abs_of_neg (by push_cast; linarith)]
    push_cast
    ring
  · rw [hlower (by linarith), abs_of_neg (show x < 0 by linarith), abs_of_pos (by push_cast; linarith)]
    push_cast
    ring

end Sys2Proof.Machine

namespace Sys2Proof.Proofs

open Machine

/-- Settles O36: a code up to 511 is on the grid, so only the quotient is rounded. -/
theorem dqdcDividesBy511 : Obligations.DqdcDividesBy511 := by
  unfold Obligations.DqdcDividesBy511
  intro s q hs hq hfit
  obtain ⟨x, hx, hdecode⟩ := exists_decodeDc s.config.pnum hfit
  exact ⟨x, hx, execDqdc_eq hs hq hfit hdecode⟩

/-- Settles O37: a code in [-16, 15] is on the grid, and its value is at most 1 in size. -/
theorem dqacScalesTheDifferences : Obligations.DqacScalesTheDifferences := by
  unfold Obligations.DqacScalesTheDifferences
  intro s b c d hs hb hc hd hb0 hb1 hc0 hc1 hd0 hd1
  obtain ⟨x, hx, hdecode_b⟩ := exists_decodeAc s.config.pnum hb0 hb1
  obtain ⟨y, hy, hdecode_c⟩ := exists_decodeAc s.config.pnum hc0 hc1
  obtain ⟨z, hz, hdecode_d⟩ := exists_decodeAc s.config.pnum hd0 hd1
  exact ⟨x, y, z, hx, hy, hz,
    execDqac_eq hs hb hc hd ⟨hb0, hb1⟩ ⟨hc0, hc1⟩ ⟨hd0, hd1⟩ hdecode_b hdecode_c hdecode_d⟩

/-- Settles O39: both indices pass the 4-bit fits test and are entries of the table. -/
theorem dqchLooksUpBothIndices : Obligations.DqchLooksUpBothIndices := by
  unfold Obligations.DqchLooksUpBothIndices
  intro s pb pr hs hpb hpr hb hr
  refine (execDqch_eq hs hpb hpr hb hr).trans ?_
  rw [valueOf_eq_getElem _ hb, valueOf_eq_getElem _ hr]
  rfl

/-- Settles O40: a fits test fails before any arithmetic or write. -/
theorem dequantisersRefuseMisfits : Obligations.DequantisersRefuseMisfits := by
  unfold Obligations.DequantisersRefuseMisfits
  intro s hs
  refine ⟨fun q hq h => execDqdc_misfit hs hq h, fun b c d hb hc hd h => ?_,
    fun pb pr hpb hpr h => execDqch_misfit hs hpb hpr h⟩
  exact execDqac_misfit hs hb hc hd ((not_and_or.mp h).imp_right not_and_or.mp)

/-- Settles O38: the 32 rows, evaluated; under EXACT a code times 3/10 over 15. -/
theorem acDequantiserTable : Obligations.AcDequantiserTable := by
  unfold Obligations.AcDequantiserTable
  refine ⟨fun x hx => exists_common_value ?_, decodeAc_exact⟩
  revert x
  decide +kernel

/-- Settles O42: a code that is not saturated is at most half a step off, a saturated one off by the excess. -/
theorem lumaQuantiserErrorBounds : Obligations.LumaQuantiserErrorBounds := by
  unfold Obligations.LumaQuantiserErrorBounds
  exact ⟨fun _ => lumaAverage_roundTrip_exact, fun _ => lumaDifference_roundTrip_exact,
    fun _ => lumaDifference_roundTrip_saturated⟩

end Sys2Proof.Proofs
end

section
/-! PROOFS of the family 44_quantizer.md, second part: the nearest-entry search (R198, R202, R205). The scan keeps an
entry that is nearest of those it has passed (`IsNearest`), so it answers a nearest one of the table; the entries of a
valid table are distinct, so an entry is nearest to itself alone. -/

namespace Sys2Proof.Machine

/-! ### The scan of a table -/

/-- The distance of entry `k` of a table from `v`. -/
def entryDistance (table : List Rat) (v : Rat) (k : Nat) : Rat := |table.getD k 0 - v|

/-- `j` is a nearest entry of a table, and without `late` the lowest one. -/
structure IsNearest (late : Bool) (table : List Rat) (v : Rat) (j : Nat) : Prop where
  inTable : j < table.length
  nearest : ∀ k < table.length, entryDistance table v j ≤ entryDistance table v k
  lowest : late = false → ∀ k < j, entryDistance table v j < entryDistance table v k

theorem entryDistance_append {table : List Rat} {k : Nat} (h : k < table.length) (es : List Rat) (v : Rat) :
    entryDistance (table ++ es) v k = entryDistance table v k := by
  rw [entryDistance, List.getD_append _ _ _ _ h, entryDistance]

theorem entryDistance_append_length (table : List Rat) (e v : Rat) :
    entryDistance (table ++ [e]) v table.length = |e - v| := by
  rw [entryDistance, List.getD_append_right _ _ _ _ le_rfl, Nat.sub_self, List.getD_cons_zero]

section scan
variable {late : Bool} {v : Rat}

theorem isNearest_singleton (e : Rat) : IsNearest late [e] v 0 where
  inTable := Nat.one_pos
  nearest k hk := by rw [Nat.lt_one_iff.mp hk]
  lowest _ k hk := absurd hk k.not_lt_zero

/-- The scan moves on to a new entry that is nearer, or with `late` as near (R202). -/
theorem IsNearest.append_new {table : List Rat} {j : Nat} {e : Rat} (h : IsNearest late table v j)
    (he : |e - v| < entryDistance table v j ∨ (late = true ∧ |e - v| = entryDistance table v j)) :
    IsNearest late (table ++ [e]) v table.length := by
  have hle : |e - v| ≤ entryDistance table v j := he.elim le_of_lt fun he => he.2.le
  refine ⟨by simp, fun k hk => ?_, fun hlate k hk => ?_⟩
  · rw [List.length_append, List.length_singleton, Nat.lt_succ_iff_lt_or_eq] at hk
    rcases hk with hk | rfl
    · rw [entryDistance_append_length, entryDistance_append hk]
      exact hle.trans (h.nearest k hk)
    · exact le_rfl
  · have hlt : |e - v| < entryDistance table v j := he.resolve_right fun he => by simp [hlate] at he
    rw [entryDistance_append_length, entryDistance_append hk]
    exact hlt.trans_le (h.nearest k hk)

/-- The scan keeps its entry otherwise. -/
theorem IsNearest.append_old {table : List Rat} {j : Nat} {e : Rat} (h : IsNearest late table v j)
    (he : entryDistance table v j ≤ |e - v|) : IsNearest late (table ++ [e]) v j := by
  refine ⟨by simpa using h.inTable.le, fun k hk => ?_, fun hlate k hk => ?_⟩
  · rw [entryDistance_append h.inTable]
    rw [List.length_append, List.length_singleton, Nat.lt_succ_iff_lt_or_eq] at hk
    rcases hk with hk | rfl
    · rw [entryDistance_append hk]
      exact h.nearest k hk
    · rwa [entryDistance_append_length]
  · rw [entryDistance_append h.inTable, entryDistance_append (hk.trans h.inTable)]
    exact h.lowest hlate k hk

/-- Scanning on from a nearest entry of the table so far answers a nearest entry of the whole. -/
theorem nearestFrom_isNearest (es : List Rat) {table : List Rat} {j : Nat} (h : IsNearest late table v j) :
    IsNearest late (table ++ es) v (nearestFrom late v es table.length j (entryDistance table v j)) := by
  induction es generalizing table j with
  | nil => rwa [List.append_nil]
  | cons e es ih =>
    rw [nearestFrom, List.append_cons]
    have hlength : (table ++ [e]).length = table.length + 1 := by simp
    split
    next he =>
      have hnew := ih (h.append_new he)
      rwa [hlength, entryDistance_append_length] at hnew
    next he =>
      have hold := ih (h.append_old (not_lt.mp fun hlt => he (.inl hlt)))
      rwa [hlength, entryDistance_append h.inTable] at hold

theorem nearestIndex_isNearest {table : List Rat} (h : table ≠ []) :
    IsNearest late table v (nearestIndex late table v) := by
  cases table with
  | nil => exact absurd rfl h
  | cons e es => exact nearestFrom_isNearest es (isNearest_singleton e)

end scan

/-! ### The index of a number and the value of an index -/

theorem chromaValues_length (c : Config) : (chromaValues c).length = 16 := by simp [chromaValues]

theorem indexOf_eq (c : Config) (free : Bool) (v : Rat) :
    indexOf c free v = nearestIndex (decide (c.tie = .any) && free) (chromaValues c) v := by
  rw [indexOf]
  cases c.tie <;> rfl

/-- The search answers what R202 allows, whatever the table and the free bit. -/
theorem indexOf_isIndexOf (c : Config) (free : Bool) (v : Rat) : IsIndexOf c v (indexOf c free v) := by
  have hlength := chromaValues_length c
  have hnearest : IsNearest (decide (c.tie = .any) && free) (chromaValues c) v (indexOf c free v) :=
    indexOf_eq c free v ▸ nearestIndex_isNearest (List.ne_nil_of_length_pos (by omega))
  refine ⟨?_, fun k hk => hnearest.nearest k (by omega), fun htie k hk => hnearest.lowest (by simp [htie]) k hk⟩
  have hin := hnearest.inTable
  omega

theorem chromaAt_injective {c : Config} (h : c.Valid) {j k : Nat} (hj : j ≤ 15) (hk : k ≤ 15)
    (heq : chromaAt c j = chromaAt c k) : j = k := by
  have hlength := chromaValues_length c
  obtain ⟨-, hincreasing⟩ := h
  have hnodup : (chromaValues c).Nodup := hincreasing.imp ne_of_lt
  rw [chromaAt, chromaAt, List.getD_eq_getElem _ _ (by omega), List.getD_eq_getElem _ _ (by omega)] at heq
  exact hnodup.getElem_inj_iff.mp heq

/-- Of the entries of a valid table an entry is nearest to itself alone (R205). -/
theorem indexOf_chromaAt {c : Config} (h : c.Valid) (free : Bool) {j : Nat} (hj : j ≤ 15) :
    indexOf c free (chromaAt c j) = j := by
  obtain ⟨hle, hnearest, -⟩ := indexOf_isIndexOf c free (chromaAt c j)
  have hzero := hnearest j hj
  rw [sub_self, abs_zero] at hzero
  exact chromaAt_injective h hle hj (sub_eq_zero.mp (abs_nonpos_iff.mp hzero))

/-- The value of an index of a valid table, as the search sees it (R204). -/
theorem numberValue_valueOf {c : Config} (h : c.Valid) {j : Nat} (hj : j ≤ 15) :
    numberValue (valueOf c j) = some (chromaAt c j) := by
  have hat : chromaAt c j = (numberValue (valueOf c j)).getD 0 :=
    List.getD_map c.chroma.toList Number.zero fun x => (numberValue x).getD 0
  obtain ⟨q, hq⟩ := Option.ne_none_iff_exists'.mp (numberValue_valueOf_ne_none h (Nat.lt_succ_of_le hj))
  rw [hat, hq, Option.getD_some]

/-! ### QCH -/

theorem tieDraws_eq (c : Config) : tieDraws c = if c.tie = .any then 2 else 0 := by
  rw [tieDraws]
  cases c.tie <;> rfl

theorem execQch_eq {s : State} (hs : Running s) {n k : Number} {x z : Rat} (hn : s.coef.pb = some n)
    (hk : s.coef.pr = some k) (hx : numberValue n = some x) (hz : numberValue k = some z) :
    execQch s = .next ((s.setQChroma (zext64 (indexOf s.config (Config.freeBit s.fresh) x))
      (zext64 (indexOf s.config (Config.freeBit (s.fresh + 1)) z))).drawn (tieDraws s.config)) := by
  have hsource : sourceChroma s.coef = .ok ⟨n, k⟩ := sourceChroma_eq_ok.mpr ⟨hn, hk⟩
  have hfinite : finiteChroma ⟨n, k⟩ = .ok ⟨x, z⟩ := finiteChroma_eq_ok.mpr ((Chroma.mk.injEq ..).mpr ⟨hx, hz⟩)
  rw [execQch, hsource, Checked.ok_bind, hfinite, Checked.ok_bind]
  exact command_ok hs _

/-- QCH on two table entries writes their indices (R205). -/
theorem execQch_of_valueOf {s : State} (hs : Running s) (hvalid : s.config.Valid) {pb pr : Word64}
    (hn : s.coef.pb = some (valueOf s.config pb.toNat)) (hk : s.coef.pr = some (valueOf s.config pr.toNat))
    (hpb : pb.toNat ≤ 15) (hpr : pr.toNat ≤ 15) :
    execQch s = .next ((s.setQChroma pb pr).drawn (tieDraws s.config)) := by
  rw [execQch_eq hs hn hk (numberValue_valueOf hvalid hpb) (numberValue_valueOf hvalid hpr),
    indexOf_chromaAt hvalid _ hpb, indexOf_chromaAt hvalid _ hpr]
  simp only [zext64, BitVec.ofNat_toNat, BitVec.setWidth_eq]

/-- Writing to the two chroma indices what they hold leaves `Q` as it is. -/
theorem setQChroma_q_eq_self {s : State} {pb pr : Word64} (hpb : s.q.pb = some pb) (hpr : s.q.pr = some pr) :
    (s.setQChroma pb pr).q = s.q := by
  rw [State.setQChroma, ← hpb, ← hpr]

end Sys2Proof.Machine

namespace Sys2Proof.Proofs

open Machine

/-- Settles O35: both searches answer a nearest entry, with two free bits at most. -/
theorem qchFindsTheNearestEntries : Obligations.QchFindsTheNearestEntries := by
  unfold Obligations.QchFindsTheNearestEntries
  intro s n k x z hs hn hk hx hz
  have hqch := execQch_eq hs hn hk hx hz
  rw [tieDraws_eq] at hqch
  exact ⟨_, _, indexOf_isIndexOf s.config (Config.freeBit s.fresh) x,
    indexOf_isIndexOf s.config (Config.freeBit (s.fresh + 1)) z, hqch⟩

/-- Settles O41: the entries of a valid table are distinct, so QCH finds the index DQCH looked up. -/
theorem chromaIndicesAreStable : Obligations.ChromaIndicesAreStable := by
  unfold Obligations.ChromaIndicesAreStable
  refine ⟨fun c free v _ => ?nearest, fun c free j h hj => indexOf_chromaAt h free hj, ?commands⟩
  case nearest =>
    obtain ⟨-, hnearest, -⟩ := indexOf_isIndexOf c free v
    exact hnearest
  intro s pb pr hs hvalid hpb hpr hfit_pb hfit_pr
  have hdqch := execDqch_eq hs hpb hpr (Nat.lt_succ_of_le hfit_pb) (Nat.lt_succ_of_le hfit_pr)
  have hqch := execQch_of_valueOf
    (s := s.setCoefChroma ⟨valueOf s.config pb.toNat, valueOf s.config pr.toNat⟩) hs hvalid rfl rfl hfit_pb hfit_pr
  exact ⟨_, _, hdqch, hqch, setQChroma_q_eq_self hpb hpr⟩

end Sys2Proof.Proofs
end

section
/-! PROOFS of the family 44_quantizer.md, third part: quantised blocks pack (R226). QDC, QAC and QCH write codes that
fit the fields of the codeword. -/

namespace Sys2Proof.Machine

/-- Two commands that complete one after the other (R244). -/
theorem andThen_eq_next {o : Answer} {f : State → Answer} {t u : State} (ho : o = .next t) (hf : f t = .next u) :
    andThen o f = .next u := by
  rw [ho, andThen_next, hf]

/-! ### Codewords of fields that fit -/

theorem codeword_lt {q : Six Word64} (h : FieldsFit q) :
    codeword q.a.toNat q.b.toInt q.c.toInt q.d.toInt q.pb.toNat q.pr.toNat < 2 ^ 32 := by
  obtain ⟨ha, -, -, -, hpb, hpr⟩ := h
  unfold codeword
  omega

/-- PACK of fields that fit writes to `W` the codeword zero-extended (R221). -/
theorem exec_pack_of_fieldsFit {s : State} {q : Six Word64} (hs : Running s) (hq : s.q = q.map some)
    (hfit : FieldsFit q) : ∃ cw : Word32, exec .pack s = .next ((s.setW (cw.setWidth 64)).setCw cw) := by
  refine ⟨(packWord q).setWidth 32, (execPack_eq hs hq hfit).trans ?_⟩
  have hword : packWord q = ((packWord q).setWidth 32).setWidth 64 := by
    refine BitVec.eq_of_toNat_eq ?_
    have hlt := codeword_lt hfit
    rw [packWord_eq hfit]
    simp only [BitVec.toNat_setWidth, BitVec.toNat_ofNat]
    omega
  rw [← hword]

/-- The codes the quantisers write fit their fields (R191, R193, R202, R220). -/
theorem fieldsFit_of_codes {a i j : Nat} {b c d : Int} (ha : a ≤ 511) (hb : -15 ≤ b ∧ b ≤ 15)
    (hc : -15 ≤ c ∧ c ≤ 15) (hd : -15 ≤ d ∧ d ≤ 15) (hi : i ≤ 15) (hj : j ≤ 15) :
    FieldsFit ⟨BitVec.ofNat 64 a, BitVec.ofInt 64 b, BitVec.ofInt 64 c, BitVec.ofInt 64 d, BitVec.ofNat 64 i,
      BitVec.ofNat 64 j⟩ := by
  have hnat {n : Nat} (h : n ≤ 511) : (BitVec.ofNat 64 n).toNat = n := by
    rw [BitVec.toNat_ofNat]
    exact Nat.mod_eq_of_lt (by omega)
  have hint {n : Int} (h : -15 ≤ n ∧ n ≤ 15) : (BitVec.ofInt 64 n).toInt = n := by
    rw [BitVec.toInt_ofInt]
    exact Int.bmod_eq_of_le (by omega) (by omega)
  simp only [FieldsFit, hnat ha, hint hb, hint hc, hint hd, hnat (hi.trans (by decide)), hnat (hj.trans (by decide))]
  omega

end Sys2Proof.Machine

namespace Sys2Proof.Proofs

open Machine

/-- QDC, QAC and QCH on finite coefficients complete and leave in `Q` six codes that fit (R226). -/
theorem quantised_fieldsFit {s : State} (hs : Running s)
    (hcoef : ∀ k, ∃ n, s.number (.coef k) = some n ∧ numberValue n ≠ none) :
    ∃ (u : State) (q : Six Word64), andThen (andThen (exec .qdc s) (exec .qac)) (exec .qch) = .next u ∧
      Running u ∧ u.q = q.map some ∧ FieldsFit q := by
  have hvalue (k : Part) : ∃ n x, s.number (.coef k) = some n ∧ numberValue n = some x := by
    obtain ⟨n, hn, hfinite⟩ := hcoef k
    exact ⟨n, (Option.ne_none_iff_exists'.mp hfinite).imp fun _ hx => ⟨hn, hx⟩⟩
  obtain ⟨na, xa, hna, hxa⟩ := hvalue .a
  obtain ⟨nb, xb, hnb, hxb⟩ := hvalue .b
  obtain ⟨nc, xc, hnc, hxc⟩ := hvalue .c
  obtain ⟨nd, xd, hnd, hxd⟩ := hvalue .d
  obtain ⟨npb, xpb, hnpb, hxpb⟩ := hvalue .pb
  obtain ⟨npr, xpr, hnpr, hxpr⟩ := hvalue .pr
  obtain ⟨a, ⟨ha, -⟩, hqdc⟩ := qdcQuantisesTheAverage s na xa hs hna hxa
  obtain ⟨b, c, d, ⟨hb, -⟩, ⟨hc, -⟩, ⟨hd, -⟩, hqac⟩ :=
    qacQuantisesTheDifferences (s.setQA (BitVec.ofNat 64 a)) nb nc nd xb xc xd hs hnb hnc hnd hxb hxc hxd
  obtain ⟨i, j, ⟨hi, -⟩, ⟨hj, -⟩, hqch⟩ :=
    qchFindsTheNearestEntries ((s.setQA (BitVec.ofNat 64 a)).setQDifferences (BitVec.ofInt 64 b) (BitVec.ofInt 64 c)
      (BitVec.ofInt 64 d)) npb npr xpb xpr hs hnpb hnpr hxpb hxpr
  exact ⟨_, _, andThen_eq_next (andThen_eq_next hqdc hqac) hqch, hs, rfl, fieldsFit_of_codes ha hb hc hd hi hj⟩

/-- Settles O48: the codes of QDC, QAC and QCH are in `[0, 511]`, `[-15, 15]` and `[0, 15]`. -/
theorem quantisedBlocksAlwaysPack : Obligations.QuantisedBlocksAlwaysPack := by
  unfold Obligations.QuantisedBlocksAlwaysPack
  intro s hs hcoef
  obtain ⟨u, q, hu, hrun, hq, hfit⟩ := quantised_fieldsFit hs hcoef
  obtain ⟨cw, hpack⟩ := exec_pack_of_fieldsFit hrun hq hfit
  exact ⟨_, andThen_eq_next hu hpack, hrun, cw, rfl, rfl⟩

end Sys2Proof.Proofs
end

section
/-! PROOFS of the family 45_packer.md: PACK and UNPACK (R220 to R224). The six fits tests succeed exactly on fields that
fit, so a PACK that does not fault has built the codeword of its fields, and a codeword and its fields determine each
other. A host packs the same word by a HostWrite of `V` and a set for each field. -/

namespace Sys2Proof.Machine

/-! ### The six fits tests -/

theorem inRange_decide_of {p : Prop} [Decidable p] (h : p) (info : BitVec 4) : inRange (decide p) info = .ok () := by
  rw [decide_eq_true h, inRange_true]

theorem inRange_decide_of_not {p : Prop} [Decidable p] (h : ¬ p) (info : BitVec 4) :
    inRange (decide p) info = .error ⟨.outOfRange, info⟩ := by
  rw [decide_eq_false h, inRange_false]

theorem fitsUnsigned_u64_nine (x : Word64) : fitsUnsigned (u64 x) 9 = decide (x.toNat ≤ 511) :=
  (fitsUnsigned_u64 x 9).trans (decide_eq_decide.mpr Nat.lt_succ_iff)

theorem fitsUnsigned_u64_four (x : Word64) : fitsUnsigned (u64 x) 4 = decide (x.toNat ≤ 15) :=
  (fitsUnsigned_u64 x 4).trans (decide_eq_decide.mpr Nat.lt_succ_iff)

/-- Six tests that raise nothing have tested fields that fit (R220, R221). -/
theorem fieldsFit_of_eq_ok {q : Six Word64} {u : Unit} (h : fieldsFit q = .ok u) : FieldsFit q := by
  simp only [fieldsFit, Checked.bind_eq_ok, inRange_eq_ok, exists_const, fitsUnsigned_u64_nine, fitsUnsigned_u64_four,
    fitsSigned_i64_five, decide_eq_true_iff] at h
  exact h

/-- What reading the six fields or testing them raises, PACK raises, and it writes nothing else (R221, R266). -/
theorem exec_pack_of_error {s : State} {x : Raise} (hs : Running s) (h : (sourceSix s.q >>= fieldsFit) = .error x) :
    exec .pack s = .next (s.raise x) := by
  rcases Checked.bind_eq_error.mp h with hsource | ⟨q, hsource, hmisfit⟩
  · simp [exec, execPack, hsource, command_error hs]
  · simp [exec, execPack, hsource, hmisfit, command_error hs]

/-- A PACK that leaves the core running has read six fields that fit (R221). -/
theorem fieldsFit_of_exec_pack {s t : State} (hs : Running s) (h : exec .pack s = .next t) (ht : Running t) :
    ∃ q : Six Word64, s.q = q.map some ∧ FieldsFit q := by
  cases hfields : sourceSix s.q >>= fieldsFit with
  | error x =>
    obtain rfl := Host.Outcome.next.inj ((exec_pack_of_error hs hfields).symm.trans h)
    exact absurd (s.raise_halted x) (Bool.eq_false_iff.mp ht)
  | ok u =>
    obtain ⟨q, hsource, hfit⟩ := Checked.bind_eq_ok.mp hfields
    exact ⟨q, sourceSix_eq_ok.mp hsource, fieldsFit_of_eq_ok hfit⟩

/-! ### A codeword and its six fields -/

theorem signed5_mod_bounds (m : Nat) : -16 ≤ signed5 (m % 32) ∧ signed5 (m % 32) ≤ 15 := by
  unfold signed5
  split <;> omega

/-- A 5-bit pattern comes back from its signed reading (R71, R72). -/
theorem signed5_mod_emod_toNat (m : Nat) : (signed5 (m % 32) % 32).toNat = m % 32 := by
  unfold signed5
  split <;> omega

/-- A signed 5-bit value comes back from its pattern (R71, R72). -/
theorem signed5_toNat_emod {n : Int} (h : -16 ≤ n ∧ n ≤ 15) : signed5 (n % 32).toNat = n := by
  unfold signed5
  split <;> omega

theorem toInt_ofInt_signed5_mod (m : Nat) : (BitVec.ofInt 64 (signed5 (m % 32))).toInt = signed5 (m % 32) := by
  obtain ⟨hlo, hhi⟩ := signed5_mod_bounds m
  exact BitVec.toInt_ofInt_eq_self (by decide) (by omega) (by omega)

/-- The formula of R71 puts each field at its place. -/
theorem codeword_div {a pb pr : Nat} (b c d : Int) (hpb : pb ≤ 15) (hpr : pr ≤ 15) :
    codeword a b c d pb pr / 2 ^ 23 = a ∧
      codeword a b c d pb pr / 2 ^ 18 % 32 = (b % 32).toNat ∧
      codeword a b c d pb pr / 2 ^ 13 % 32 = (c % 32).toNat ∧
      codeword a b c d pb pr / 2 ^ 8 % 32 = (d % 32).toNat ∧
      codeword a b c d pb pr / 2 ^ 4 % 16 = pb ∧ codeword a b c d pb pr % 16 = pr := by
  unfold codeword
  omega

/-- The codeword of a codeword's fields is that codeword (R71, R222). -/
theorem codeword_fields (n : Nat) :
    codeword (n / 2 ^ 23) (signed5 (n / 2 ^ 18 % 32)) (signed5 (n / 2 ^ 13 % 32)) (signed5 (n / 2 ^ 8 % 32))
      (n / 2 ^ 4 % 16) (n % 16) = n := by
  simp only [codeword, signed5_mod_emod_toNat]
  omega

/-- Unpacking the codeword of six fields that fit gives those fields (R223). -/
theorem unpackWord_codeword {q : Six Word64} (h : FieldsFit q) :
    unpackWord ((BitVec.ofNat 32
      (codeword q.a.toNat q.b.toInt q.c.toInt q.d.toInt q.pb.toNat q.pr.toNat)).setWidth 64) = q := by
  have hlt := codeword_lt h
  obtain ⟨-, hb, hc, hd, hpb, hpr⟩ := h
  obtain ⟨ha', hb', hc', hd', hpb', hpr'⟩ := codeword_div (a := q.a.toNat) q.b.toInt q.c.toInt q.d.toInt hpb hpr
  rw [unpackWord_eq, BitVec.toNat_ofNat, Nat.mod_eq_of_lt hlt, ha', hb', hc', hd', hpb', hpr', signed5_toNat_emod hb,
    signed5_toNat_emod hc, signed5_toNat_emod hd]
  simp only [BitVec.ofInt_toInt, BitVec.ofNat_toNat, BitVec.setWidth_eq]

/-- The fields of any codeword fit (R71, R222). -/
theorem fieldsFit_unpackWord (cw : Word32) : FieldsFit (unpackWord (cw.setWidth 64)) := by
  have hlt := cw.isLt
  rw [unpackWord_eq]
  simp only [FieldsFit, BitVec.toNat_ofNat, toInt_ofInt_signed5_mod]
  exact ⟨by omega, signed5_mod_bounds _, signed5_mod_bounds _, signed5_mod_bounds _, by omega, by omega⟩

/-- Packing the fields of a codeword gives that codeword (R223). -/
theorem packWord_unpackWord (cw : Word32) : packWord (unpackWord (cw.setWidth 64)) = cw.setWidth 64 := by
  have hlt := cw.isLt
  have hsmall {n : Nat} (h : n ≤ cw.toNat) : n % 2 ^ 64 = n := Nat.mod_eq_of_lt (by omega)
  rw [packWord_eq (fieldsFit_unpackWord cw), unpackWord_eq]
  simp only [BitVec.toNat_ofNat, toInt_ofInt_signed5_mod]
  rw [hsmall (by omega), hsmall (by omega), hsmall (by omega), codeword_fields, BitVec.ofNat_toNat]

/-! ### Packing by host actions -/

theorem run_succ_of_next {M : Host.Core} {s t : M.State} (h : M.step s = .next t) (k : Nat) :
    M.run (k + 1) s = M.run k t := by
  rw [Host.Core.run, h]

theorem run_succ_of_step {s t : State} (h : step s = .next t) (k : Nat) :
    Sys2Proof.core.run (k + 1) s = Sys2Proof.core.run k t :=
  run_succ_of_next (M := Sys2Proof.core) (s := s) (t := t) h k

theorem step_write_w {s : State} (hs : Running s) {x : Word64} {actions : List HostAction}
    (h : s.pending = .write 0x01 (.word x) :: actions) :
    step s = .next (State.setW { s with pending := actions } x) := by
  have hrun : Running { s with pending := actions } := hs
  rw [step_of_pending h]
  exact (hostWrite_w (n := 0x01) hrun rfl _).trans (writeBits_word64 x _)

theorem step_write_v {s : State} (hs : Running s) {x : Word64} {actions : List HostAction}
    (h : s.pending = .write 0x00 (.word x) :: actions) :
    step s = .next (State.setV { s with pending := actions } x) := by
  have hrun : Running { s with pending := actions } := hs
  rw [step_of_pending h]
  exact (hostWrite_v (n := 0x00) hrun rfl _).trans (writeBits_word64 x _)

/-- The thirteen host actions of R224: the zero word to `W`, then each field's value to `V` and its set. -/
def packingActions (q : Six Word64) : List HostAction :=
  [.write 0x01 (.word 0), .write 0x00 (.word q.a), .command 0x05091700, .write 0x00 (.word q.b), .command 0x06051200,
    .write 0x00 (.word q.c), .command 0x06050D00, .write 0x00 (.word q.d), .command 0x06050800,
    .write 0x00 (.word q.pb), .command 0x05040400, .write 0x00 (.word q.pr), .command 0x05040000]

/-- A core on which a host packs: `V` and `W` in use, and the host actions to come (R224). -/
def State.packing (s : State) (v : Option Word64) (w : Word64) (actions : List HostAction) : State :=
  { s with v := v, w := some w, pending := actions }

section packing
variable {s : State} (hs : Running s) {v : Option Word64} {w x : Word64} {actions : List HostAction}
include hs

/-- The zero word is written first (R224). -/
theorem run_write_w (k : Nat) :
    Sys2Proof.core.run (k + 1) { s with pending := .write 0x01 (.word x) :: actions } =
      Sys2Proof.core.run k (s.packing s.v x actions) := by
  have hrun : Running { s with pending := .write 0x01 (.word x) :: actions } := hs
  exact run_succ_of_step (step_write_w hrun rfl) k

/-- A field is packed in two actions: its value is written to `V`, and a set puts it into `W` (R224). -/
theorem run_write_v_command {i : Instr} {word : Word32} {w' : Word64} (hdecode : decode word = .ok i)
    (hexec : exec i (s.packing (some x) w actions) = .next (s.packing (some x) w' actions)) (k : Nat) :
    Sys2Proof.core.run (k + 2) (s.packing v w (.write 0x00 (.word x) :: .command word :: actions)) =
      Sys2Proof.core.run k (s.packing (some x) w' actions) := by
  have hrun : Running (s.packing v w (.write 0x00 (.word x) :: .command word :: actions)) := hs
  have hwrite : step (s.packing v w (.write 0x00 (.word x) :: .command word :: actions)) =
      .next (s.packing (some x) w (.command word :: actions)) := step_write_v hrun rfl
  have hcommand : step (s.packing (some x) w (.command word :: actions)) =
      .next (s.packing (some x) w' actions) := by
    rw [step_of_pending rfl]
    exact (hostCommand_of_decode hdecode _).trans hexec
  exact (run_succ_of_step hwrite _).trans (run_succ_of_step hcommand _)

theorem run_write_setu {word : Word32} {width lsb : Byte} (hdecode : decode word = .ok (.setu width lsb))
    (hspan : spanOk width lsb = true) (hfit : fitsUnsigned (u64 x) width.toNat = true) (k : Nat) :
    Sys2Proof.core.run (k + 2) (s.packing v w (.write 0x00 (.word x) :: .command word :: actions)) =
      Sys2Proof.core.run k (s.packing (some x) (setUnsigned w width.toNat lsb.toNat x.toNat) actions) :=
  run_write_v_command hs hdecode (execSetu_eq hs rfl rfl hspan hfit) k

theorem run_write_sets {word : Word32} {width lsb : Byte} (hdecode : decode word = .ok (.sets width lsb))
    (hspan : spanOk width lsb = true) (hfit : fitsSigned (i64 x) width.toNat = true) (k : Nat) :
    Sys2Proof.core.run (k + 2) (s.packing v w (.write 0x00 (.word x) :: .command word :: actions)) =
      Sys2Proof.core.run k (s.packing (some x) (setSigned w width.toNat lsb.toNat (i64 x)) actions) :=
  run_write_v_command hs hdecode (execSets_eq hs rfl rfl hspan hfit) k

/-- The thirteen actions build in `W` the word that PACK builds. -/
theorem run_packing {q : Six Word64} (hfit : FieldsFit q) :
    Sys2Proof.core.run 13 { s with pending := packingActions q ++ actions } =
      .next (s.packing (some q.pr) (packWord q) actions) := by
  obtain ⟨ha, hb, hc, hd, hpb, hpr⟩ := hfit
  have hnine {x : Word64} (h : x.toNat ≤ 511) : fitsUnsigned (u64 x) 9 = true :=
    (fitsUnsigned_u64_nine x).trans (decide_eq_true h)
  have hfive {x : Word64} (h : -16 ≤ x.toInt ∧ x.toInt ≤ 15) : fitsSigned (i64 x) 5 = true :=
    (fitsSigned_i64_five x).trans (decide_eq_true h)
  have hfour {x : Word64} (h : x.toNat ≤ 15) : fitsUnsigned (u64 x) 4 = true :=
    (fitsUnsigned_u64_four x).trans (decide_eq_true h)
  refine (run_write_w hs 12).trans ?_
  refine (run_write_setu hs (width := 9) (lsb := 23) (by decide) rfl (hnine ha) 10).trans ?_
  refine (run_write_sets hs (width := 5) (lsb := 18) (by decide) rfl (hfive hb) 8).trans ?_
  refine (run_write_sets hs (width := 5) (lsb := 13) (by decide) rfl (hfive hc) 6).trans ?_
  refine (run_write_sets hs (width := 5) (lsb := 8) (by decide) rfl (hfive hd) 4).trans ?_
  refine (run_write_setu hs (width := 4) (lsb := 4) (by decide) rfl (hfour hpb) 2).trans ?_
  exact run_write_setu hs (width := 4) (lsb := 0) (by decide) rfl (hfour hpr) 0

end packing

end Sys2Proof.Machine

namespace Sys2Proof.Proofs

open Machine

/-- Settles O44: the tests before the misfit succeed, and the misfit's own test raises its ordinal. -/
theorem packReportsTheFirstMisfit : Obligations.PackReportsTheFirstMisfit := by
  unfold Obligations.PackReportsTheFirstMisfit
  intro s q hs hq
  dsimp only
  have hraise (info : BitVec 4) (h : fieldsFit q = .error ⟨.outOfRange, info⟩) :
      exec .pack s = .next (s.raise ⟨.outOfRange, info⟩) :=
    exec_pack_of_error hs (by rw [sourceSix_eq_ok.mpr hq, Checked.ok_bind, h])
  simp only [fieldsFit, fitsUnsigned_u64_nine, fitsUnsigned_u64_four, fitsSigned_i64_five] at hraise
  refine ⟨fun _ => hraise 1 ?_, fun _ _ => hraise 2 ?_, fun _ _ _ => hraise 3 ?_, fun _ _ _ _ => hraise 4 ?_,
    fun _ _ _ _ _ => hraise 5 ?_, fun _ _ _ _ _ _ => hraise 6 ?_⟩
  all_goals simp (disch := assumption) only [inRange_decide_of, inRange_decide_of_not, Checked.ok_bind,
    Checked.error_bind]

/-- Settles O46: six fields that fit are the fields of their codeword, and a codeword is that of its fields. -/
theorem packAndUnpackAreInverse : Obligations.PackAndUnpackAreInverse := by
  unfold Obligations.PackAndUnpackAreInverse
  refine ⟨fun s t hs h ht => ?_, fun s cw hs hcw => ?_⟩
  · obtain ⟨q, hq, hfit⟩ := fieldsFit_of_exec_pack hs h ht
    obtain rfl := Host.Outcome.next.inj ((packBuildsTheCodeword s q hs hq hfit).symm.trans h)
    refine ⟨_, execUnpack_eq ht rfl, ?_⟩
    rw [State.setQAll_q, unpackWord_codeword hfit, hq]
  · refine ⟨_, _, execUnpack_eq hs hcw, execPack_eq hs rfl (fieldsFit_unpackWord cw), hs, ?_⟩
    rw [State.setCw_cw, packWord_unpackWord, BitVec.setWidth_setWidth_of_le _ (by decide), BitVec.setWidth_eq]

/-- Settles O47: the sets of the host actions are those of `packWord`, and the gets those of `unpackWord`. -/
theorem packIsASequenceOfBitFieldCommands : Obligations.PackIsASequenceOfBitFieldCommands := by
  unfold Obligations.PackIsASequenceOfBitFieldCommands
  refine ⟨fun s q rest hs hq hfit => ?_, fun s t cw hs hcw h => ?_⟩
  · exact ⟨_, _, execPack_eq hs hq hfit, run_packing hs hfit, rfl, rfl, rfl⟩
  · obtain rfl := Host.Outcome.next.inj ((execUnpack_eq hs hcw).symm.trans h)
    simp only [List.forall_mem_cons]
    exact ⟨execGetu_eq hs rfl rfl, execGets_eq hs rfl rfl, execGets_eq hs rfl rfl, execGets_eq hs rfl rfl,
      execGetu_eq hs rfl rfl, execGetu_eq hs rfl rfl, fun _ hx => absurd hx List.not_mem_nil⟩

end Sys2Proof.Proofs
end

section
/-! PROOFS of the family 46_block_ops.md, first part: a host that issues the constituents of a composite one by one
(R244). A command does not look at the host's list, so it does the same whatever is left on it. -/

namespace Sys2Proof.Machine

/-! ### Equality of states -/

theorem rgb_eq_of_agree {s t : State} (h : ∀ p, ∀ x ∈ rgbRegs p, Agree s t x) : s.rgb = t.rgb :=
  (Quad.mk.injEq ..).mpr ⟨rgb_get_eq (h .topLeft), rgb_get_eq (h .topRight), rgb_get_eq (h .bottomLeft),
    rgb_get_eq (h .bottomRight)⟩

theorem ypp_eq_of_agree {s t : State} (h : ∀ p, ∀ x ∈ yppRegs p, Agree s t x) : s.ypp = t.ypp :=
  (Quad.mk.injEq ..).mpr ⟨ypp_get_eq (h .topLeft), ypp_get_eq (h .topRight), ypp_get_eq (h .bottomLeft),
    ypp_get_eq (h .bottomRight)⟩

/-- Two states with the same core, the same host's side and the same count of free values are equal. -/
theorem eq_of_sameCore {s t : State} (h : SameCore s t) (hpending : s.pending = t.pending)
    (hanswer : s.answer = t.answer) (hfresh : s.fresh = t.fresh) : s = t := by
  obtain ⟨hagree, hfault, hconfig⟩ := h
  exact (State.mk.injEq ..).mpr ⟨rgb_eq_of_agree fun _ x _ => hagree x, ypp_eq_of_agree fun _ x _ => hagree x,
    six_eq fun k => hagree (.num (.coef k)), six_eq fun k => hagree (.q k), hagree .v, hagree .w, hagree .r,
    hagree .cw, hagree .t, hfault, hconfig, hpending, hanswer, hfresh⟩

/-! ### The host's list -/

/-- Another list of host actions to come changes no register. -/
theorem agree_withPending (s : State) (l : List HostAction) (x : Reg) : Agree s { s with pending := l } x := by
  rcases x with (_ | _ | _) | _ | _ | _ | _ | _ | _ <;> rfl

/-- An update of registers does not look at the host's list. -/
theorem Updates.withPending {L : List Reg} {g : State → State} (hg : Updates L g) (s : State) (l : List HostAction) :
    g { s with pending := l } = { g s with pending := l } := by
  have hagree (x : Reg) : Agree (g { s with pending := l }) (g s) x := by
    by_cases hx : x ∈ L
    · exact hg.written _ s x hx
    · exact agree_trans (agree_symm (hg.frame _ x hx))
        (agree_trans (agree_symm (agree_withPending s l x)) (hg.frame s x hx))
  refine eq_of_sameCore ⟨fun x => agree_trans (hagree x) (agree_withPending (g s) l x), ?_, ?_⟩ (hg.pending _) ?_
    (hg.fresh _ s rfl)
  · exact (hg.fault _).trans (hg.fault s).symm
  · exact (hg.config _).trans (hg.config s).symm
  · exact (hg.answer _).trans (hg.answer s).symm

/-- A single-stage command does not look at the host's list (R31, R270). -/
theorem exec_withPending {i : Instr} (hi : ¬ Composite i) {s t : State} (l : List HostAction)
    (h : exec i s = .next t) : exec i { s with pending := l } = .next { t with pending := l } := by
  cases hs : s.halted with
  | true =>
    obtain rfl := Host.Outcome.next.inj ((exec_of_halted_single hi hs).symm.trans h)
    exact exec_of_halted_single hi hs
  | false =>
    have hsame : SameInputs (reads i) s { s with pending := l } :=
      ⟨rfl, rfl, .inr rfl, fun x _ => agree_withPending s l x⟩
    obtain ⟨g, ho, ho', hg⟩ := exec_alike_single hi hs hsame
    obtain rfl : g s = t := Host.Outcome.next.inj (ho.symm.trans h)
    rw [ho']
    rcases hg with hg | ⟨e, rfl⟩
    · rw [hg.withPending]
    · rfl

/-! ### Commands issued one by one -/

/-- The host action that issues a command (R31, R73). -/
def commandAction (i : Instr) : HostAction := .command (encode i)

theorem step_commandAction {i : Instr} (hwf : i.wellFormed = true) (s : State) (rest : List HostAction) :
    step { s with pending := commandAction i :: rest } = exec i { s with pending := rest } := by
  rw [step_of_pending rfl]
  exact hostCommand_of_decode (decode_encode hwf) _

/-- A host that issues commands one by one runs them in sequence (R244, R296). -/
theorem run_commandActions {cs : List Instr} (hc : ∀ c ∈ cs, ¬ Composite c) (hwf : ∀ c ∈ cs, c.wellFormed = true)
    (s : State) :
    Sys2Proof.core.run cs.length { s with pending := cs.map commandAction ++ s.pending } = runCommands cs s := by
  induction cs generalizing s with
  | nil => rfl
  | cons c cs ih =>
    obtain ⟨t, ht⟩ := exec_next c s
    have hsingle := hc c List.mem_cons_self
    have hstep : step { s with pending := (c :: cs).map commandAction ++ s.pending } =
        .next { t with pending := cs.map commandAction ++ t.pending } := by
      rw [(changesOnly_single hsingle ht).pending]
      exact (step_commandAction (hwf c List.mem_cons_self) s _).trans (exec_withPending hsingle _ ht)
    rw [runCommands_cons, ht, andThen_next]
    exact (run_succ_of_step hstep _).trans
      (ih (fun d hd => hc d (List.mem_cons_of_mem c hd)) (fun d hd => hwf d (List.mem_cons_of_mem c hd)) t)

/-- The constituents of a composite are commands a host can issue (R78, R241, R242). -/
theorem wellFormed_of_mem_constituents {i c : Instr} (h : c ∈ constituents i) : c.wellFormed = true := by
  have hencblk : ∀ c ∈ encblkCommands, c.wellFormed = true := by decide
  have hdecblk : ∀ c ∈ decblkCommands, c.wellFormed = true := by decide
  cases i
  case encblk => exact hencblk c h
  case decblk => exact hdecblk c h
  all_goals exact absurd h List.not_mem_nil

theorem wellFormed_of_composite {i : Instr} (h : Composite i) : i.wellFormed = true := by
  cases i
  case encblk | decblk => rfl
  all_goals exact h.elim

/-- A composite leaves the state that its constituents leave when the host issues them one by one (R244). -/
theorem run_composite {i : Instr} (hi : Composite i) (s : State) (rest : List HostAction) :
    ∃ t, Sys2Proof.core.run (constituents i).length
        { s with pending := (constituents i).map commandAction ++ rest } = .next t ∧
      Sys2Proof.core.run 1 { s with pending := commandAction i :: rest } = .next t := by
  obtain ⟨t, ht⟩ := exec_next i { s with pending := rest }
  refine ⟨t, ?_, run_succ_of_step ((step_commandAction (wellFormed_of_composite hi) s rest).trans ht) 0⟩
  exact (run_commandActions (fun _ hc => not_composite_of_mem_constituents hc)
    (fun _ hc => wellFormed_of_mem_constituents hc) { s with pending := rest }).trans
      ((exec_composite hi _).symm.trans ht)

end Sys2Proof.Machine

namespace Sys2Proof.Proofs

open Machine

/-- Settles O49: the words are those of the constituents, and a command does not look at the host's list. -/
theorem compositesAreTheirSequences : Obligations.CompositesAreTheirSequences := by
  unfold Obligations.CompositesAreTheirSequences
  exact ⟨run_composite (i := .encblk) trivial, run_composite (i := .decblk) trivial⟩

end Sys2Proof.Proofs
end

section
/-! PROOFS of the family 46_block_ops.md, second part: bounds of the rounded arithmetic (R107, R115). Under BINARY32 a
sum of few bounded terms is bounded, and what is bounded does not overflow; under EXACT nothing overflows (R104). -/

namespace Sys2Proof.Machine

/-- A number that is no larger than a bound under BINARY32; under EXACT any number. -/
def Within (m : PNum) (b : Nat) (x : Rat) : Prop := m = .binary32 → |x| ≤ b

section within
variable {m : PNum} {b b' : Nat} {x y c : Rat}

theorem Within.mono (h : Within m b x) (hle : b ≤ b') : Within m b' x := fun hm =>
  (h hm).trans (Nat.cast_le.mpr hle)

theorem Within.neg (h : Within m b x) : Within m b (-x) := fun hm => (abs_neg x).trans_le (h hm)

theorem Within.add (hx : Within m b x) (hy : Within m b' y) : Within m (b + b') (x + y) := fun hm => by
  rw [Nat.cast_add]
  exact (abs_add_le x y).trans (add_le_add (hx hm) (hy hm))

theorem onGrid_natCast (hb : b < 2 ^ 24) : OnGrid b := by
  have h := onGrid_div (n := b) 0 (by rwa [Nat.abs_cast, ← Nat.cast_ofNat, ← Nat.cast_pow, Nat.cast_lt])
  simpa using h

/-- A bounded number does not overflow, and its rounding is bounded (R107). -/
theorem roundTo_within (hb : b < 2 ^ 24) (hx : Within m b x) : ∃ y, roundTo m x = some y ∧ Within m b y := by
  cases m with
  | exact => exact ⟨x, rfl, nofun⟩
  | binary32 =>
    obtain ⟨y, hy, hle⟩ := roundTo_abs_le .binary32 (onGrid_natCast hb) (hx rfl)
    exact ⟨y, hy, fun _ => hle⟩

theorem Within.of_roundTo (hx : Within m b x) (hb : b < 2 ^ 24) (h : roundTo m x = some y) : Within m b y := by
  obtain ⟨z, hz, hbound⟩ := roundTo_within hb hx
  obtain rfl := Option.some.inj (hz.symm.trans h)
  exact hbound

/-- No coefficient of the rules is above 2 (R116). -/
theorem Within.lit_mul (hc : |c| ≤ 2) (hx : Within m b x) : Within m (2 * b) (lit m c * x) := fun hm => by
  rw [abs_mul, Nat.cast_mul]
  exact mul_le_mul (abs_lit_le m (onGrid_natCast (by decide)) hc) (hx hm) (abs_nonneg x) (Nat.cast_nonneg 2)

end within

section sums
variable {m : PNum} {n k b : Nat} {acc : Rat}

theorem roundedSum_within {xs : List Rat} (hacc : Within m n acc) (hxs : ∀ x ∈ xs, Within m k x)
    (hsum : n + k * xs.length ≤ b) (hb : b < 2 ^ 24) : ∃ y, roundedSum m acc xs = some y ∧ Within m b y := by
  induction xs generalizing n acc with
  | nil => exact ⟨acc, rfl, hacc.mono (le_of_add_le_left hsum)⟩
  | cons x xs ih =>
    rw [List.length_cons, Nat.mul_succ] at hsum
    obtain ⟨z, hz, hbound⟩ := roundTo_within (by omega) (hacc.add (hxs x List.mem_cons_self))
    rw [roundedSum_cons, hz, Option.bind_some]
    exact ih hbound (fun y hy => hxs y (List.mem_cons_of_mem x hy)) (by omega)

theorem roundedAffine_within {terms : List (Rat × Rat)} (hacc : Within m n acc)
    (hterms : ∀ t ∈ terms, |t.1| ≤ 2 ∧ Within m k t.2) (hsum : n + 2 * k * terms.length ≤ b) (hb : b < 2 ^ 24) :
    ∃ y, roundedAffine m acc terms = some y ∧ Within m b y := by
  induction terms generalizing n acc with
  | nil => exact ⟨acc, rfl, hacc.mono (le_of_add_le_left hsum)⟩
  | cons t terms ih =>
    obtain ⟨hc, hv⟩ := hterms t List.mem_cons_self
    rw [List.length_cons, Nat.mul_succ] at hsum
    obtain ⟨p, hp, hproduct⟩ := roundTo_within (by omega) (hv.lit_mul hc)
    obtain ⟨z, hz, hbound⟩ := roundTo_within (by omega) (hacc.add hproduct)
    rw [roundedAffine_cons, hp, Option.bind_some, hz, Option.bind_some]
    exact ih hbound (fun u hu => hterms u (List.mem_cons_of_mem t hu)) (by omega)

end sums

section mappings
variable {m : PNum}

/-- A quartered sum of four bounded samples has their bound (R171, R173). -/
theorem roundedQuarter_within {b : Nat} {x y z w : Rat} (hb : 4 * b < 2 ^ 24) (hx : Within m b x) (hy : Within m b y)
    (hz : Within m b z) (hw : Within m b w) :
    ∃ a, roundedQuarter m x [y, z, w] = some a ∧ Within m b a := by
  obtain ⟨s, hs, hbound⟩ := roundedSum_within (k := b) (b := 4 * b) (xs := [y, z, w]) hx (by simp [hy, hz, hw])
    (show b + b * 3 ≤ 4 * b by omega) hb
  have hmean : Within m b (s / 4) := fun hm => by
    rw [abs_div, abs_of_pos (by norm_num : (0 : Rat) < 4), div_le_iff₀' (by norm_num)]
    exact_mod_cast hbound hm
  obtain ⟨a, ha, hle⟩ := roundTo_within (by omega) hmean
  exact ⟨a, by rw [roundedQuarter, hs]; exact ha, hle⟩

/-- The forward mapping of the contract range (R151, R155). -/
theorem rgbToYpp_within {x : Rgb Rat} (hr : Within m 1 x.r) (hg : Within m 1 x.g) (hb : Within m 1 x.b) :
    ∃ z, rgbToYpp m x = some z ∧ Within m 2 z.y ∧ Within m 2 z.pb ∧ Within m 2 z.pr := by
  cases m with
  | exact => exact ⟨_, rfl, nofun, nofun, nofun⟩
  | binary32 =>
    have hunit {v : Rat} (h : Within .binary32 1 v) : |v| ≤ 1 := by simpa using h rfl
    obtain ⟨z, hz, hy, hpb, hpr⟩ := rgbToYpp_of_unit .binary32 (hunit hr) (hunit hg) (hunit hb)
    exact ⟨z, hz, fun _ => hy.le, fun _ => hpb.le, fun _ => hpr.le⟩

/-- The inverse mapping of what the inverse transform answers (R152). -/
theorem yppToRgb_within {x : Ypp Rat} (hy : Within m 16 x.y) (hpb : Within m 16 x.pb) (hpr : Within m 16 x.pr) :
    ∃ z, yppToRgb m x = some z ∧ Within m 80 z.r ∧ Within m 80 z.g ∧ Within m 80 z.b := by
  have haffine {terms : List (Rat × Rat)} (hlength : terms.length ≤ 2)
      (hterms : ∀ t ∈ terms, |t.1| ≤ 2 ∧ Within m 16 t.2) :
      ∃ v, roundedAffine m x.y terms = some v ∧ Within m 80 v :=
    roundedAffine_within hy hterms (by omega) (by decide)
  obtain ⟨r, hr, hr'⟩ := haffine (terms := [(1402 / 1000, x.pr)]) one_le_two (by norm_num [hpr])
  obtain ⟨g, hg, hg'⟩ := haffine (terms := [(-344136 / 10 ^ 6, x.pb), (-714136 / 10 ^ 6, x.pr)]) le_rfl
    (by norm_num [hpb, hpr, abs_div])
  obtain ⟨b, hb, hb'⟩ := haffine (terms := [(1772 / 1000, x.pb)]) one_le_two (by norm_num [hpb])
  exact ⟨⟨r, g, b⟩, by simp only [yppToRgb_eq, hr, hg, hb, Option.bind_some], hr', hg', hb'⟩

/-- No code of a luma difference has a large value (R194, R203). -/
theorem within_of_isAcValue {k : Int} {x : Rat} (hlo : -16 ≤ k) (hhi : k ≤ 15) (h : IsAcValue m k x) :
    Within m 4 x := by
  obtain ⟨u, hu, hx⟩ := h
  have hk : |(k : Rat)| ≤ 16 := by exact_mod_cast abs_le.mpr ⟨hlo, hhi.trans (by decide)⟩
  have hquotient : Within m 2 ((k : Rat) / 15) := fun _ => by
    rw [abs_div, abs_of_pos (by norm_num : (0 : Rat) < 15), div_le_iff₀ (by norm_num)]
    exact hk.trans (by norm_num)
  have hproduct : Within m 4 (u * lit m (3 / 10)) := by
    rw [mul_comm]
    exact (hquotient.of_roundTo (by decide) hu).lit_mul (by norm_num)
  exact hproduct.of_roundTo (by decide) hx

end mappings

end Sys2Proof.Machine
end

section
/-! PROOFS of the family 46_block_ops.md, third part: composites that complete (R241, R242). The registers stay within
bounds: a constituent that finds its sources within them completes and leaves its destinations within them
(`Completes`), so a sequence completes if each command in it reads what is known by then (`sourcesKnown`). -/

namespace Sys2Proof.Machine

/-! ### Registers within bounds -/

/-- How large the numbers of a composite grow, and the lowest code of a luma difference it meets. -/
structure Bounds where
  /-- The size of the numbers in `RGB`. -/
  rgb : Nat
  /-- The size of the numbers in `YPP`. -/
  ypp : Nat
  /-- The size of the numbers in `COEF`. -/
  coef : Nat
  /-- The lowest code in `Q.b`, `Q.c`, `Q.d`. -/
  lowest : Int

def Bounds.number (B : Bounds) : NumReg → Nat
  | .rgb _ _ => B.rgb
  | .ypp _ _ => B.ypp
  | .coef _ => B.coef

/-- Pixels in contract (R151), and no code -16 (R72). -/
def Bounds.encode : Bounds := ⟨1, 2, 2, -15⟩

/-- The values of a codeword's fields (R194, R195), and what the inverse transform and mapping make of them. -/
def Bounds.decode : Bounds := ⟨80, 16, 4, -16⟩

/-- A code that fits its field of the codeword (R220); a luma difference is not below the lowest code. -/
def CodeFits (lowest : Int) : Part → Word64 → Prop
  | .a, x => x.toNat ≤ 511
  | .pb, x | .pr, x => x.toNat ≤ 15
  | .b, x | .c, x | .d, x => lowest ≤ x.toInt ∧ x.toInt ≤ 15

theorem CodeFits.mono {l l' : Int} {k : Part} {x : Word64} (h : CodeFits l k x) (hle : l' ≤ l) : CodeFits l' k x := by
  cases k with
  | a | pb | pr => exact h
  | b | c | d =>
    obtain ⟨hlo, hhi⟩ := h
    exact ⟨hle.trans hlo, hhi⟩

/-- A register is written, and a number or a code it holds is within the bounds. -/
def Meets (B : Bounds) (m : PNum) (s : State) : Reg → Prop
  | .num n => ∃ x v, s.number n = some x ∧ numberValue x = some v ∧ Within m (B.number n) v
  | .q k => ∃ x, sixPart s.q k = some x ∧ CodeFits B.lowest k x
  | x => ¬ Unwritten s x

section meets
variable {B : Bounds} {m : PNum} {s t : State}

theorem not_unwritten_of_meets {x : Reg} (h : Meets B m s x) : ¬ Unwritten s x := by
  cases x with
  | num n =>
    obtain ⟨y, -, hy, -⟩ := h
    exact Option.ne_none_iff_exists'.mpr ⟨y, hy⟩
  | q k =>
    obtain ⟨y, hy, -⟩ := h
    exact Option.ne_none_iff_exists'.mpr ⟨y, hy⟩
  | v | w | r | cw | t => exact h

theorem meets_of_agree {x : Reg} (h : Meets B m s x) (hagree : Agree s t x) : Meets B m t x := by
  cases x with
  | num n =>
    obtain ⟨y, v, hy, hv⟩ := h
    exact ⟨y, v, hagree.symm.trans hy, hv⟩
  | q k =>
    obtain ⟨y, hy, hfit⟩ := h
    exact ⟨y, hagree.symm.trans hy, hfit⟩
  | v | w | r | cw | t => exact fun hu => h (unwritten_of_agree hagree hu)

/-- A bounded result of rounding, stored in a register (R32). -/
theorem meets_numberOf {n : NumReg} {v : Rat} (hn : t.number n = some (numberOf m v)) (hv : Rounded m v)
    (hbound : Within m (B.number n) v) : Meets B m t (.num n) := by
  obtain ⟨x, hx⟩ := hv
  exact ⟨_, v, hn, numberValue_numberOf hx, hbound⟩

/-! The sources of the commands, in the groups they are read in. -/

theorem forall_mem_lumaRegs {P : Reg → Prop} : (∀ x ∈ lumaRegs, P x) ↔ ∀ p, P (.num (.ypp p .y)) := by
  refine ⟨fun h p => h _ (by cases p <;> simp [lumaRegs]), fun h => ?_⟩
  simp only [lumaRegs, List.forall_mem_cons]
  exact ⟨h .topLeft, h .topRight, h .bottomLeft, h .bottomRight, nofun⟩

theorem forall_mem_chromaRegs {P : Reg → Prop} :
    (∀ x ∈ chromaRegs, P x) ↔ (∀ p, P (.num (.ypp p .pb))) ∧ ∀ p, P (.num (.ypp p .pr)) := by
  refine ⟨fun h => ⟨fun p => h _ (by cases p <;> simp [chromaRegs]), fun p => h _ (by cases p <;> simp [chromaRegs])⟩,
    fun ⟨hpb, hpr⟩ => ?_⟩
  simp only [chromaRegs, List.forall_mem_cons]
  exact ⟨hpb .topLeft, hpb .topRight, hpb .bottomLeft, hpb .bottomRight, hpr .topLeft, hpr .topRight, hpr .bottomLeft,
    hpr .bottomRight, nofun⟩

theorem forall_mem_allQ {P : Reg → Prop} : (∀ x ∈ allQ, P x) ↔ ∀ k, P (.q k) := by
  refine ⟨fun h k => h _ (by cases k <;> simp [allQ]), fun h => ?_⟩
  simp only [allQ, List.forall_mem_cons]
  exact ⟨h .a, h .b, h .c, h .d, h .pb, h .pr, nofun⟩

theorem rgb_of_meets {p : Pixel} (h : ∀ x ∈ rgbRegs p, Meets B m s x) :
    ∃ (n : Rgb Number) (x : Rgb Rat), s.rgb.get p = n.map some ∧ n.map numberValue = x.map some ∧
      Within m B.rgb x.r ∧ Within m B.rgb x.g ∧ Within m B.rgb x.b := by
  simp only [rgbRegs, List.forall_mem_cons] at h
  obtain ⟨⟨r, x, hr, hx, hx'⟩, ⟨g, y, hg, hy, hy'⟩, ⟨b, z, hb, hz, hz'⟩, -⟩ := h
  exact ⟨⟨r, g, b⟩, ⟨x, y, z⟩, (Rgb.mk.injEq ..).mpr ⟨hr, hg, hb⟩, (Rgb.mk.injEq ..).mpr ⟨hx, hy, hz⟩, hx', hy', hz'⟩

theorem ypp_of_meets {p : Pixel} (h : ∀ x ∈ yppRegs p, Meets B m s x) :
    ∃ (n : Ypp Number) (x : Ypp Rat), s.ypp.get p = n.map some ∧ n.map numberValue = x.map some ∧
      Within m B.ypp x.y ∧ Within m B.ypp x.pb ∧ Within m B.ypp x.pr := by
  simp only [yppRegs, List.forall_mem_cons] at h
  obtain ⟨⟨y, x, hy, hx, hx'⟩, ⟨pb, u, hpb, hu, hu'⟩, ⟨pr, v, hpr, hv, hv'⟩, -⟩ := h
  exact ⟨⟨y, pb, pr⟩, ⟨x, u, v⟩, (Ypp.mk.injEq ..).mpr ⟨hy, hpb, hpr⟩, (Ypp.mk.injEq ..).mpr ⟨hx, hu, hv⟩, hx', hu',
    hv'⟩

/-- One component of all four samples. -/
theorem samples_of_meets {k : YppPart} (h : ∀ p, Meets B m s (.num (.ypp p k))) :
    ∃ (n : Quad Number) (x : Quad Rat), (s.ypp.map fun z => yppPart z k) = n.map some ∧
      n.map numberValue = x.map some ∧ ∀ p, Within m B.ypp (x.get p) := by
  choose n x hn hx hbound using h
  refine ⟨⟨n .topLeft, n .topRight, n .bottomLeft, n .bottomRight⟩,
    ⟨x .topLeft, x .topRight, x .bottomLeft, x .bottomRight⟩,
    (Quad.mk.injEq ..).mpr ⟨hn .topLeft, hn .topRight, hn .bottomLeft, hn .bottomRight⟩,
    (Quad.mk.injEq ..).mpr ⟨hx .topLeft, hx .topRight, hx .bottomLeft, hx .bottomRight⟩, fun p => ?_⟩
  cases p <;> exact hbound _

/-- Six codes that fit are a block that PACK takes (R220). -/
theorem fieldsFit_iff {q : Six Word64} : FieldsFit q ↔ ∀ k, CodeFits (-16) k (sixPart q k) := by
  refine ⟨fun ⟨ha, hb, hc, hd, hpb, hpr⟩ k => ?_, fun h => ⟨h .a, h .b, h .c, h .d, h .pb, h .pr⟩⟩
  cases k <;> assumption

theorem q_of_meets (h : ∀ k, Meets B m s (.q k)) :
    ∃ q : Six Word64, s.q = q.map some ∧ ∀ k, CodeFits B.lowest k (sixPart q k) := by
  choose x hx hfit using h
  refine ⟨⟨x .a, x .b, x .c, x .d, x .pb, x .pr⟩, six_eq fun k => ?_, fun k => ?_⟩
  · cases k <;> exact hx _
  · cases k <;> exact hfit _

end meets

/-! ### Commands that complete -/

/-- Under a configuration, a command that finds its sources within the bounds completes and leaves its destinations
within them. -/
def Completes (B : Bounds) (c : Config) (i : Instr) : Prop :=
  ∀ s, Running s → s.config = c → (∀ x ∈ reads i, Meets B c.pnum s x) →
    ∃ t, exec i s = .next t ∧ t.fault = s.fault ∧ ∀ x ∈ writes i, Meets B c.pnum t x

/-- A sequence of commands that know their sources completes (R244). -/
theorem runCommands_completes {B : Bounds} {c : Config} {cs : List Instr} (hc : ∀ i ∈ cs, ¬ Composite i)
    (hcs : ∀ i ∈ cs, Completes B c i) {L : List Reg} (hL : sourcesKnown L cs = true) {s : State} (hs : Running s)
    (hconfig : s.config = c) (h : ∀ x ∈ L, Meets B c.pnum s x) :
    ∃ t, runCommands cs s = .next t ∧ t.fault = s.fault ∧ ∀ x ∈ knownAfter L cs, Meets B c.pnum t x := by
  induction cs generalizing L s with
  | nil => exact ⟨s, rfl, rfl, h⟩
  | cons i cs ih =>
    obtain ⟨hreads, hrest⟩ := Bool.and_eq_true_iff.mp hL
    obtain ⟨t, ht, hfault, hwritten⟩ := hcs i List.mem_cons_self s hs hconfig fun x hx =>
      h x (of_decide_eq_true (List.all_eq_true.mp hreads x hx))
    have hframe := changesOnly_single (hc i List.mem_cons_self) ht
    have hknown : ∀ x ∈ writes i ++ L, Meets B c.pnum t x := fun x hx => by
      by_cases hw : x ∈ writes i
      · exact hwritten x hw
      · exact meets_of_agree (h x ((List.mem_append.mp hx).resolve_left hw)) (hframe.agree x hw)
    obtain ⟨u, hu, hfault', hmeets⟩ := ih (fun d hd => hc d (List.mem_cons_of_mem i hd))
      (fun d hd => hcs d (List.mem_cons_of_mem i hd)) hrest ((State.halted_congr hfault).trans hs)
      (hframe.config.trans hconfig) hknown
    exact ⟨u, by rw [runCommands_cons, ht, andThen_next, hu], hfault'.trans hfault, hmeets⟩

theorem setYpp_number (s : State) (p : Pixel) (z : Ypp Number) (k : YppPart) :
    (s.setYpp p z).number (.ypp p k) = some (yppPart z k) := by
  cases p <;> cases k <;> rfl

theorem setRgb_number (s : State) (p : Pixel) (z : Rgb Number) (k : RgbPart) :
    (s.setRgb p z).number (.rgb p k) = some (rgbPart z k) := by
  cases p <;> cases k <;> rfl

/-! The constituents of ENCBLK. -/

section encode
variable {c : Config}

theorem completes_cscf {idx : Byte} {p : Pixel} (hp : idx.toNat = p.index) : Completes .encode c (.cscf idx) := by
  rintro s hs rfl hreads
  simp only [reads, writes, pixelOf_of_index hp, Option.elim] at hreads ⊢
  obtain ⟨n, x, hn, hx, hr, hg, hb⟩ := rgb_of_meets hreads
  obtain ⟨z, hz, hy, hpb, hpr⟩ := rgbToYpp_within hr hg hb
  obtain ⟨hy', hpb', hpr'⟩ := rounded_of_rgbToYpp hz
  refine ⟨_, (execCscf_eq hp hn hx).trans (command_computed_some hs hz), rfl, ?_⟩
  simp only [yppRegs, List.forall_mem_cons]
  exact ⟨meets_numberOf (setYpp_number ..) hy' hy, meets_numberOf (setYpp_number ..) hpb' hpb,
    meets_numberOf (setYpp_number ..) hpr' hpr, nofun⟩

theorem completes_btf : Completes .encode c .btf := by
  rintro s hs rfl hreads
  obtain ⟨n, y, hn, hy, hbound⟩ := samples_of_meets (k := .y) (forall_mem_lumaRegs.mp hreads)
  have h1 := hbound .topLeft
  have h2 := hbound .topRight
  have h3 := hbound .bottomLeft
  have h4 := hbound .bottomRight
  obtain ⟨a, ha, ha'⟩ := roundedQuarter_within (by decide) h1 h2 h3 h4
  obtain ⟨b, hb, hb'⟩ := roundedQuarter_within (by decide) h4 h3 h2.neg h1.neg
  obtain ⟨c, hc, hc'⟩ := roundedQuarter_within (by decide) h4 h3.neg h2 h1.neg
  obtain ⟨d, hd, hd'⟩ := roundedQuarter_within (by decide) h4 h3.neg h2.neg h1
  obtain ⟨hbtf, -⟩ := Proofs.btfTakesTheFourSignedMeans s n _ _ _ _ hs hn hy
  refine ⟨_, hbtf a b c d ha hb hc hd, rfl, ?_⟩
  simp only [writes, List.forall_mem_cons]
  exact ⟨meets_numberOf rfl (rounded_of_roundedQuarter ha) ha', meets_numberOf rfl (rounded_of_roundedQuarter hb) hb',
    meets_numberOf rfl (rounded_of_roundedQuarter hc) hc', meets_numberOf rfl (rounded_of_roundedQuarter hd) hd', nofun⟩

theorem completes_cavg : Completes .encode c .cavg := by
  rintro s hs rfl hreads
  obtain ⟨hreads_pb, hreads_pr⟩ := forall_mem_chromaRegs.mp hreads
  obtain ⟨n, x, hn, hx, hbound⟩ := samples_of_meets (k := .pb) hreads_pb
  obtain ⟨k, z, hk, hz, hbound'⟩ := samples_of_meets (k := .pr) hreads_pr
  obtain ⟨pb, hpb, hpb'⟩ := roundedQuarter_within (by decide) (hbound .topLeft) (hbound .topRight)
    (hbound .bottomLeft) (hbound .bottomRight)
  obtain ⟨pr, hpr, hpr'⟩ := roundedQuarter_within (by decide) (hbound' .topLeft) (hbound' .topRight)
    (hbound' .bottomLeft) (hbound' .bottomRight)
  obtain ⟨hcavg, -⟩ := Proofs.cavgTakesTheChromaMeans s n k x z hs hn hk hx hz
  refine ⟨_, hcavg pb pr hpb hpr, rfl, ?_⟩
  simp only [writes, List.forall_mem_cons]
  exact ⟨meets_numberOf rfl (rounded_of_roundedQuarter hpb) hpb',
    meets_numberOf rfl (rounded_of_roundedQuarter hpr) hpr', nofun⟩

theorem toNat_ofNat_of_le {n : Nat} (h : n ≤ 511) : (BitVec.ofNat 64 n).toNat = n := by
  rw [BitVec.toNat_ofNat]
  exact Nat.mod_eq_of_lt (by omega)

theorem codeFits_ofInt {k : Int} (h : -15 ≤ k ∧ k ≤ 15) :
    -15 ≤ (BitVec.ofInt 64 k).toInt ∧ (BitVec.ofInt 64 k).toInt ≤ 15 := by
  rwa [BitVec.toInt_ofInt_eq_self (by decide) (by omega) (by omega)]

theorem completes_qdc : Completes .encode c .qdc := by
  rintro s hs rfl hreads
  obtain ⟨n, x, hn, hx, -⟩ := hreads (.num (.coef .a)) (by simp [reads])
  obtain ⟨k, ⟨hk, -⟩, hqdc⟩ := Proofs.qdcQuantisesTheAverage s n x hs hn hx
  refine ⟨_, hqdc, rfl, ?_⟩
  simp only [writes, List.forall_mem_cons]
  exact ⟨⟨_, rfl, (toNat_ofNat_of_le hk).trans_le hk⟩, nofun⟩

theorem completes_qac : Completes .encode c .qac := by
  rintro s hs rfl hreads
  simp only [reads, List.forall_mem_cons] at hreads
  obtain ⟨⟨n, x, hn, hx, -⟩, ⟨k, y, hk, hy, -⟩, ⟨l, z, hl, hz, -⟩, -⟩ := hreads
  obtain ⟨b, c, d, ⟨hb, -⟩, ⟨hc, -⟩, ⟨hd, -⟩, hqac⟩ :=
    Proofs.qacQuantisesTheDifferences s n k l x y z hs hn hk hl hx hy hz
  refine ⟨_, hqac, rfl, ?_⟩
  simp only [writes, List.forall_mem_cons]
  exact ⟨⟨_, rfl, codeFits_ofInt hb⟩, ⟨_, rfl, codeFits_ofInt hc⟩, ⟨_, rfl, codeFits_ofInt hd⟩, nofun⟩

theorem completes_qch : Completes .encode c .qch := by
  rintro s hs rfl hreads
  simp only [reads, List.forall_mem_cons] at hreads
  obtain ⟨⟨n, x, hn, hx, -⟩, ⟨k, z, hk, hz, -⟩, -⟩ := hreads
  obtain ⟨i, j, ⟨hi, -⟩, ⟨hj, -⟩, hqch⟩ := Proofs.qchFindsTheNearestEntries s n k x z hs hn hk hx hz
  refine ⟨_, hqch, rfl, ?_⟩
  simp only [writes, List.forall_mem_cons]
  exact ⟨⟨_, rfl, (toNat_ofNat_of_le (by omega)).trans_le hi⟩, ⟨_, rfl, (toNat_ofNat_of_le (by omega)).trans_le hj⟩,
    nofun⟩

/-- The constituents of ENCBLK before PACK complete on a block in contract (R241). -/
theorem encblk_completes : ∀ i ∈ encblkCommands.take 9, Completes .encode c i := by
  simp only [encblkCommands, List.take_succ_cons, List.take_zero, List.forall_mem_cons]
  exact ⟨completes_cscf (p := .topLeft) rfl, completes_cscf (p := .topRight) rfl, completes_cscf (p := .bottomLeft) rfl,
    completes_cscf (p := .bottomRight) rfl, completes_btf, completes_cavg, completes_qdc, completes_qac, completes_qch,
    nofun⟩

end encode

/-! The constituents of DECBLK. -/

section decode
variable {c : Config}

theorem completes_unpack : Completes .decode c .unpack := by
  rintro s hs rfl hreads
  obtain ⟨cw, hcw⟩ := Option.ne_none_iff_exists'.mp (hreads .cw (by simp [reads]))
  have hcodes := fieldsFit_iff.mp (fieldsFit_unpackWord cw)
  refine ⟨_, execUnpack_eq hs hcw, rfl, List.forall_mem_cons.mpr ⟨Option.some_ne_none _, ?_⟩⟩
  exact forall_mem_allQ.mpr fun k => ⟨_, by cases k <;> rfl, hcodes k⟩

theorem completes_dqdc : Completes .decode c .dqdc := by
  rintro s hs rfl hreads
  obtain ⟨q, hq, hfit : q.toNat ≤ 511⟩ := hreads (.q .a) (by simp [reads])
  obtain ⟨x, hx, hdqdc⟩ := Proofs.dqdcDividesBy511 s q hs hq hfit
  have hquotient : Within s.config.pnum 4 ((q.toNat : Rat) / 511) := fun _ => by
    have hq' : (q.toNat : Rat) ≤ 511 := by exact_mod_cast hfit
    rw [abs_of_nonneg (by positivity), div_le_iff₀ (by norm_num)]
    exact hq'.trans (by norm_num)
  refine ⟨_, hdqdc, rfl, ?_⟩
  simp only [writes, List.forall_mem_cons]
  exact ⟨meets_numberOf rfl ⟨_, hx⟩ (hquotient.of_roundTo (by decide) hx), nofun⟩

theorem completes_dqac : Completes .decode c .dqac := by
  rintro s hs rfl hreads
  simp only [reads, List.forall_mem_cons] at hreads
  obtain ⟨⟨b, hb, hb_lo, hb_hi⟩, ⟨c, hc, hc_lo, hc_hi⟩, ⟨d, hd, hd_lo, hd_hi⟩, -⟩ := hreads
  obtain ⟨x, y, z, hx, hy, hz, hdqac⟩ :=
    Proofs.dqacScalesTheDifferences s b c d hs hb hc hd hb_lo hb_hi hc_lo hc_hi hd_lo hd_hi
  have hrounded {k : Int} {x : Rat} : IsAcValue s.config.pnum k x → Rounded s.config.pnum x :=
    fun ⟨u, _, hx⟩ => ⟨_, hx⟩
  refine ⟨_, hdqac, rfl, ?_⟩
  simp only [writes, List.forall_mem_cons]
  exact ⟨meets_numberOf rfl (hrounded hx) (within_of_isAcValue hb_lo hb_hi hx),
    meets_numberOf rfl (hrounded hy) (within_of_isAcValue hc_lo hc_hi hy),
    meets_numberOf rfl (hrounded hz) (within_of_isAcValue hd_lo hd_hi hz), nofun⟩

/-- An entry of a table within `[-1/2, 1/2]`, where BINARY32 wants one (R242). -/
theorem within_chromaAt (htable : c.pnum = .binary32 → ∀ x ∈ chromaValues c, |x| ≤ 1 / 2) {j : Nat} (hj : j ≤ 15) :
    Within c.pnum 4 (chromaAt c j) := fun hm => by
  have hlt : j < (chromaValues c).length := by rw [chromaValues_length]; omega
  have hentry := htable hm _ (List.getElem_mem hlt)
  rw [chromaAt, List.getD_eq_getElem _ _ hlt]
  exact hentry.trans (by norm_num)

theorem completes_dqch (hvalid : c.Valid) (htable : c.pnum = .binary32 → ∀ x ∈ chromaValues c, |x| ≤ 1 / 2) :
    Completes .decode c .dqch := by
  rintro s hs rfl hreads
  simp only [reads, List.forall_mem_cons] at hreads
  obtain ⟨⟨pb, hpb, hfit_pb : pb.toNat ≤ 15⟩, ⟨pr, hpr, hfit_pr : pr.toNat ≤ 15⟩, -⟩ := hreads
  refine ⟨_, execDqch_eq hs hpb hpr (Nat.lt_succ_of_le hfit_pb) (Nat.lt_succ_of_le hfit_pr), rfl, ?_⟩
  simp only [writes, List.forall_mem_cons]
  exact ⟨⟨_, _, rfl, numberValue_valueOf hvalid hfit_pb, within_chromaAt htable hfit_pb⟩,
    ⟨_, _, rfl, numberValue_valueOf hvalid hfit_pr, within_chromaAt htable hfit_pr⟩, nofun⟩

theorem completes_bti : Completes .decode c .bti := by
  rintro s hs rfl hreads
  simp only [reads, List.forall_mem_cons] at hreads
  obtain ⟨⟨a, x, ha, hx, hx'⟩, ⟨b, y, hb, hy, hy'⟩, ⟨c, z, hc, hz, hz'⟩, ⟨d, w, hd, hw, hw'⟩, -⟩ := hreads
  have hsum {y z w : Rat} (hy : Within s.config.pnum 4 y) (hz : Within s.config.pnum 4 z)
      (hw : Within s.config.pnum 4 w) :
      ∃ v, roundedSum s.config.pnum x [y, z, w] = some v ∧ Within s.config.pnum 16 v :=
    roundedSum_within (k := 4) hx' (by simp [hy, hz, hw]) le_rfl (by decide)
  obtain ⟨y1, h1, h1'⟩ := hsum hy'.neg hz'.neg hw'
  obtain ⟨y2, h2, h2'⟩ := hsum hy'.neg hz' hw'.neg
  obtain ⟨y3, h3, h3'⟩ := hsum hy' hz'.neg hw'.neg
  obtain ⟨y4, h4, h4'⟩ := hsum hy' hz' hw'
  obtain ⟨hbti, -⟩ := Proofs.btiTakesTheFourSignedSums s ⟨a, b, c, d⟩ ⟨x, y, z, w⟩ hs ha hb hc hd
    ((Luma.mk.injEq ..).mpr ⟨hx, hy, hz, hw⟩)
  refine ⟨_, hbti y1 y2 y3 y4 h1 h2 h3 h4, rfl, ?_⟩
  simp only [writes, lumaRegs, List.forall_mem_cons]
  exact ⟨meets_numberOf rfl (rounded_of_roundedSum h1 nofun) h1',
    meets_numberOf rfl (rounded_of_roundedSum h2 nofun) h2', meets_numberOf rfl (rounded_of_roundedSum h3 nofun) h3',
    meets_numberOf rfl (rounded_of_roundedSum h4 nofun) h4', nofun⟩

theorem completes_crep : Completes .decode c .crep := by
  rintro s hs rfl hreads
  simp only [reads, List.forall_mem_cons] at hreads
  obtain ⟨⟨pb, x, hpb, hx, hx'⟩, ⟨pr, z, hpr, hz, hz'⟩, -⟩ := hreads
  obtain ⟨hcrep, -⟩ := Proofs.crepCopiesTheChromaPair s pb pr hs hpb hpr
  refine ⟨_, hcrep (by simp [hx]) (by simp [hz]), rfl, forall_mem_chromaRegs.mpr ⟨fun p => ?_, fun p => ?_⟩⟩
  · exact ⟨pb, x, by cases p <;> rfl, hx, hx'.mono (show 4 ≤ 16 by decide)⟩
  · exact ⟨pr, z, by cases p <;> rfl, hz, hz'.mono (show 4 ≤ 16 by decide)⟩

theorem completes_csci {idx : Byte} {p : Pixel} (hp : idx.toNat = p.index) : Completes .decode c (.csci idx) := by
  rintro s hs rfl hreads
  simp only [reads, writes, pixelOf_of_index hp, Option.elim] at hreads ⊢
  obtain ⟨n, x, hn, hx, hy, hpb, hpr⟩ := ypp_of_meets hreads
  obtain ⟨z, hz, hr, hg, hb⟩ := yppToRgb_within hy hpb hpr
  obtain ⟨hr', hg', hb'⟩ := rounded_of_yppToRgb hz
  refine ⟨_, (execCsci_eq hp hn hx).trans (command_computed_some hs hz), rfl, ?_⟩
  simp only [rgbRegs, List.forall_mem_cons]
  exact ⟨meets_numberOf (setRgb_number ..) hr' hr, meets_numberOf (setRgb_number ..) hg' hg,
    meets_numberOf (setRgb_number ..) hb' hb, nofun⟩

/-- The constituents of DECBLK complete on a codeword (R242). -/
theorem decblk_completes (hvalid : c.Valid) (htable : c.pnum = .binary32 → ∀ x ∈ chromaValues c, |x| ≤ 1 / 2) :
    ∀ i ∈ decblkCommands, Completes .decode c i := by
  simp only [decblkCommands, List.forall_mem_cons]
  exact ⟨completes_unpack, completes_dqdc, completes_dqac, completes_dqch hvalid htable, completes_bti, completes_crep,
    completes_csci (p := .topLeft) rfl, completes_csci (p := .topRight) rfl, completes_csci (p := .bottomLeft) rfl,
    completes_csci (p := .bottomRight) rfl, nofun⟩

end decode

/-! ### ENCBLK -/

/-- Before PACK all completes on a block in contract, and leaves six codes that fit, -16 not among them (R241). -/
theorem encblk_before_pack {s : State} (hs : Running s) (h : ∀ p, PixelInContract s p) :
    ∃ (u : State) (q : Six Word64), runCommands (encblkCommands.take 9) s = .next u ∧ u.fault = s.fault ∧
      u.q = q.map some ∧ (∀ k, CodeFits (-15) k (sixPart q k)) ∧
      ∀ x ∈ writes .encblk, x ≠ .w → x ≠ .cw → ¬ Unwritten u x := by
  have hknown : sourcesKnown allRgb (encblkCommands.take 9) = true := by decide
  have hwrites : ∀ x ∈ writes .encblk, x ≠ .w → x ≠ .cw → x ∈ knownAfter allRgb (encblkCommands.take 9) := by decide
  have hcodes : ∀ x ∈ allQ, x ∈ knownAfter allRgb (encblkCommands.take 9) := by decide
  have hpixel (p : Pixel) : ∀ x ∈ rgbRegs p, Meets .encode s.config.pnum s x := forall_mem_rgbRegs fun k => by
    obtain ⟨n, x, hn, hx, h0, h1⟩ := h p k
    exact ⟨n, x, hn, hx, fun _ => (abs_of_nonneg h0).trans_le (h1.trans_eq Nat.cast_one.symm)⟩
  have hblock : ∀ x ∈ allRgb, Meets .encode s.config.pnum s x := by
    simp only [allRgb, List.forall_mem_append]
    exact ⟨⟨⟨hpixel .topLeft, hpixel .topRight⟩, hpixel .bottomLeft⟩, hpixel .bottomRight⟩
  obtain ⟨u, hu, hfault, hmeets⟩ := runCommands_completes
    (fun i hi => not_composite_of_mem_constituents (i := .encblk) (List.mem_of_mem_take hi)) encblk_completes hknown hs
    rfl hblock
  obtain ⟨q, hq, hfit⟩ := q_of_meets (forall_mem_allQ.mp fun x hx => hmeets x (hcodes x hx))
  exact ⟨u, q, hu, hfault, hq, hfit, fun x hx hw hcw => not_unwritten_of_meets (hmeets x (hwrites x hx hw hcw))⟩

/-- ENCBLK ends with PACK (R241). -/
theorem exec_encblk_of_before_pack {s u t : State} (hu : runCommands (encblkCommands.take 9) s = .next u)
    (hpack : exec .pack u = .next t) : exec .encblk s = .next t := by
  have hsplit : constituents .encblk = encblkCommands.take 9 ++ [.pack] := rfl
  rw [exec_composite (i := .encblk) trivial, hsplit, runCommands_append, hu, andThen_next, runCommands_cons, hpack,
    andThen_next, runCommands_nil]

end Sys2Proof.Machine

namespace Sys2Proof.Proofs

open Machine

/-- Settles O50: the constituents before PACK stay within the bounds of the contract range, and their codes fit. -/
theorem encblkCompletesInContract : Obligations.EncblkCompletesInContract := by
  unfold Obligations.EncblkCompletesInContract
  intro s hs hblock
  obtain ⟨u, q, hu, hfault, hq, hfit, hwritten⟩ := encblk_before_pack hs hblock
  have hfields : FieldsFit q := fieldsFit_iff.mpr fun k => (hfit k).mono (by decide)
  have hpack := packBuildsTheCodeword u q ((State.halted_congr hfault).trans hs) hq hfields
  have hexec := exec_encblk_of_before_pack hu hpack
  refine ⟨_, q, _, hexec, hfault, ?_, hq, rfl, ?_, hfit .a, hfit .b, hfit .c, hfit .d, hfit .pb, hfit .pr, rfl, ?_⟩
  · have hnot (p : Pixel) : ∀ x ∈ rgbRegs p, x ∉ writes .encblk := by cases p <;> decide
    exact (rgb_eq_of_agree fun p x hx => (changesOnly_exec hexec).agree x (hnot p x hx)).symm
  · exact congrArg some (BitVec.setWidth_ofNat_of_le_of_lt (by decide) (codeword_lt hfields)).symm
  · intro x hx hu
    by_cases hpacked : x ∈ writes .pack
    · simp only [writes, List.mem_cons, List.not_mem_nil, or_false] at hpacked
      rcases hpacked with rfl | rfl <;> cases hu
    · exact hwritten x hx (fun he => hpacked (by simp [he, writes])) (fun he => hpacked (by simp [he, writes]))
        (unwritten_of_agree ((changesOnly_exec hpack).agree x hpacked) hu)

/-- Settles O51: from the codes of a codeword on every constituent stays within its bounds. -/
theorem decblkIsTotalOnCodewords : Obligations.DecblkIsTotalOnCodewords := by
  unfold Obligations.DecblkIsTotalOnCodewords
  intro s cw hs hvalid hcw htable
  obtain ⟨hknown, hwrites⟩ := sourcesKnown_constituents (i := .decblk) trivial
  have hsource : ∀ x ∈ reads .decblk, Meets .decode s.config.pnum s x :=
    List.forall_mem_cons.mpr ⟨Option.ne_none_iff_exists'.mpr ⟨cw, hcw⟩, nofun⟩
  obtain ⟨t, ht, hfault, hmeets⟩ := runCommands_completes
    (fun _ hi => not_composite_of_mem_constituents (i := .decblk) hi) (decblk_completes hvalid htable) hknown hs rfl
    hsource
  have hexec : exec .decblk s = .next t := (exec_composite (i := .decblk) trivial s).trans ht
  have hkept : Agree s t .cw := (changesOnly_exec hexec).agree .cw (by decide)
  exact ⟨t, hexec, hfault, hkept.symm, fun x hx => not_unwritten_of_meets (hmeets x (hwrites x hx))⟩

end Sys2Proof.Proofs
end

section
/-! PROOFS of the families 60_exceptions.md and 70_reset_and_hazards.md: what a halted core does with each of the four
host actions, and the state a HostReset leaves. -/

namespace Sys2Proof.Machine

section halted
variable {s : State} (h : s.halted = true)
include h

/-- A halted core drops every command: a composite is a sequence of dropped commands (R267, R244). -/
theorem exec_of_halted (i : Instr) : exec i s = .next s := by
  by_cases hi : Composite i
  · rw [exec_composite hi]
    exact runCommands_of_halted (fun _ hc => not_composite_of_mem_constituents hc) h
  · exact exec_of_halted_single hi h

/-- A halted core drops a command word, whether it decodes or not (R74 (1)). -/
theorem hostCommand_of_halted (w : Word32) : hostCommand w s = .next s := by
  cases hd : decode w with
  | ok i => exact (hostCommand_of_decode hd s).trans (exec_of_halted h i)
  | error e =>
    simp only [hostCommand, hd]
    exact command_of_halted h _

/-- A halted core ignores a HostWrite, of a value of either kind (R31, R267). -/
theorem hostWrite_of_halted (n : Byte) (v : HostData) : hostWrite n v s = .next s := if_pos h

end halted

/-- HostReset leaves the core running (R290). -/
theorem running_hostReset (s : State) : Running s.hostReset := by
  simp [Running, State.halted, State.faultCode]

/-- HostReset leaves every data register unwritten, whatever it held (R290). -/
theorem unwritten_hostReset (s : State) (x : Reg) : Unwritten s.hostReset x := by
  cases x with
  | num n => exact number_reset n
  | q k => cases k <;> rfl
  | v | w | r | cw | t => rfl

/-- The state at power-on is one that a HostReset leaves (R290). -/
theorem hostReset_reset : State.reset.hostReset = State.reset := rfl

end Sys2Proof.Machine

namespace Sys2Proof.Proofs

open Machine

/-- Settles O7: one lemma for each action a halted core drops; a read and a reset do not ask whether it is halted. -/
theorem haltedCoreHonoursOnlyReadAndReset : Obligations.HaltedCoreHonoursOnlyReadAndReset := by
  unfold Obligations.HaltedCoreHonoursOnlyReadAndReset
  intro s hs
  exact ⟨exec_of_halted hs, hostCommand_of_halted hs, hostWrite_of_halted hs, fun _ => rfl, rfl,
    s.hostReset, rfl, running_hostReset s⟩

/-- Settles O8: by what HostReset leaves, of which power-on is a case, and by cases of the action on a halted core. -/
theorem hostResetLeavesEveryRegisterUnwritten : Obligations.HostResetLeavesEveryRegisterUnwritten := by
  unfold Obligations.HostResetLeavesEveryRegisterUnwritten
  refine ⟨fun s => ⟨s.hostReset, rfl, s.hostReset_fault, unwritten_hostReset s, s.hostReset_config,
    s.hostReset_pending, s.hostReset_answer, s.hostReset_fresh⟩, ⟨rfl, fun x => ?_⟩, fun s a hs ha => ?_⟩
  · rw [← hostReset_reset]
    exact unwritten_hostReset State.reset x
  · cases a with
    | write n v => exact ⟨s, hostWrite_of_halted hs n v, rfl, fun _ => rfl⟩
    | read n => exact ⟨_, rfl, rfl, fun hn => absurd rfl (hn n)⟩
    | command w => exact ⟨s, hostCommand_of_halted hs w, rfl, fun _ => rfl⟩
    | reset => exact absurd rfl ha

end Sys2Proof.Proofs
end
